-- ==== Sys2Proof/Word.lean ====
section
/-! DEFINITION. The machine's word types: bytes and 16-bit addresses (rules R10 and R60 of the spec). -/

namespace Sys2Proof

/-- A byte: every register but PC, and every memory cell, is 8 bits wide (Table 00-A). -/
abbrev Byte := BitVec 8

/-- A 16-bit address: PC, effective addresses, vectors (Table 00-A). -/
abbrev Word := BitVec 16

end Sys2Proof
end

