-- ==== Sys2Proof/Config.lean ====
section
/-! DEFINITION. What the spec leaves to the implementation (Table 00-A): the policies and parameters a step consults,
the constants the spec fixes, and the FREE VALUES, opaque constants applied to the state's plain counter `free`. -/

namespace Sys2Proof

/-- UNSTABLE_OPCODE_POLICY and JAM_POLICY (rules R8, R296): run as a NOP (the default) or refuse the opcode. -/
inductive OpcodePolicy where
  | nop
  | refuse
  deriving DecidableEq, Repr

/-- DEVICE_RESET (decision D41): what a warm reset does to the PPU, APU and mapper. `nothing` is the spec's default;
`other` is any other behaviour, left free (log 6). -/
inductive DeviceReset where
  | nothing
  | other
  deriving DecidableEq, Repr

/-- The OPEN parameters of Table 00-A that a running step consults. They are arguments of the model: plain data in
State, which no step changes. -/
structure Params where
  unstable    : OpcodePolicy
  jam         : OpcodePolicy
  deviceReset : DeviceReset
  deriving DecidableEq, Repr

/-- The spec's defaults: both policies `nop`, DEVICE_RESET nothing. -/
def Params.default : Params := ⟨.nop, .nop, .nothing⟩

/-- DMC_STALL_CYCLES, fixed at 4 (decision D10, rule R366). -/
abbrev Config.dmcStallCycles : Nat := 4

/-- FREE VALUE (APU_TIMING, entry U9; log 8): whether the APU frame counter takes a step in this CPU cycle. -/
opaque Config.frameStepDue : Nat → Bool

/-- FREE VALUE (APU_TIMING, entry U9; log 8): the length-counter table, indexed by bits 7 to 3 of the written byte. -/
opaque Config.lengthTable : BitVec 5 → Byte

/-- FREE VALUE (APU_TIMING, entry U9; log 8): whether an active DMC requests a sample byte in this CPU cycle. -/
opaque Config.dmcFetchDue : Nat → Bool

/-- FREE VALUE (APU_TIMING, entry U9; log 8): the address of the DMC's sample fetch requested in this CPU cycle. -/
opaque Config.dmcFetchAddr : Nat → Word

/-- FREE VALUE (APU_TIMING, entry U9; log 8): whether the fetch requested in this CPU cycle is the sample's last. -/
opaque Config.dmcSampleEnds : Nat → Bool

/-- FREE VALUE (log 13): whether sprite 0 hits in this PPU dot of a rendered visible scanline (rule R357). -/
opaque Config.spriteZeroHit : Nat → Bool

/-- FREE VALUE (log 13): whether sprite evaluation sets the overflow flag in this PPU dot (rule R357). -/
opaque Config.spriteOverflow : Nat → Bool

/-- FREE VALUE (log 14): the address `v` after a PPU dot in which background fetches may have incremented it. -/
opaque Config.renderV : Nat → BitVec 15

/-- FREE VALUE (log 15): the level of PPU address line A12 in a dot of a rendered scanline. -/
opaque Config.renderA12 : Nat → Bool

end Sys2Proof
end

