-- ==== Sys2Proof/Machine/Memory.lean ====
section
/-! DEFINITION. One memory chip as a list of (address, byte) pairs in canonical form: addresses strictly rising, no
entry equal to what an unlisted address reads as. Every memory of the machine (RAM, PRG, PRG-RAM, CHR, nametables,
palette, OAM, register files) has this type. -/

namespace Sys2Proof

/-- The contents of one memory, as (address, byte) pairs. -/
abbrev Memory := List Host.Cell

/-- What an unlisted address reads as. DESIGN CHOICE (log 2): RAM_INIT and every other power-on content is 0x00. -/
def Memory.unlisted : Byte := 0x00#8

/-- The byte at an address. -/
def Memory.read : Memory → Nat → Byte
  | [], _ => Memory.unlisted
  | (k, b) :: rest, a => if k = a then b else Memory.read rest a

/-- Put a byte at an address of a memory whose addresses below it have been passed. -/
def Memory.put (a : Nat) (b : Byte) (rest : Memory) : Memory :=
  if b = Memory.unlisted then rest else (a, b) :: rest

/-- Write a byte, keeping the canonical form. -/
def Memory.write : Memory → Nat → Byte → Memory
  | [], a, b => Memory.put a b []
  | (k, c) :: rest, a, b =>
    if a < k then Memory.put a b ((k, c) :: rest)
    else if a = k then Memory.put a b rest
    else (k, c) :: Memory.write rest a b

/-- Addresses strictly rising from `low` on, none listed with the unlisted value, all below `size`. -/
def Memory.wfFrom (size : Nat) : Nat → Memory → Bool
  | _, [] => true
  | low, (k, b) :: rest =>
    decide (low ≤ k) && decide (k < size) && !(b == Memory.unlisted) && Memory.wfFrom size (k + 1) rest

/-- The canonical form of a memory of `size` bytes. -/
def Memory.wf (size : Nat) (m : Memory) : Bool := Memory.wfFrom size 0 m

end Sys2Proof
end

