-- ==== Sys2Proof/Machine/State.lean ====
section
/-! DEFINITION. The machine's state as plain data: the core of Table 10-A, the bus, and every device register the CPU
can see (60_exceptions.md section 8); the reasons a step can stop; the power-on state and the state after reset. -/

namespace Sys2Proof.Machine

/-- The six stored status flags (rule R26); B and bit 5 exist only in pushed images (rule R29). -/
structure Flags where
  n : Bool
  v : Bool
  d : Bool
  i : Bool
  z : Bool
  c : Bool
  deriving DecidableEq, Repr, Inhabited

/-- One DMA transfer that still owes stall cycles (rules R362 and R366). -/
inductive DmaJob where
  /-- OAM DMA: source page, alignment cycles `a = N - 512` (1 or 2), stall cycles already spent, byte in transit. -/
  | oam (page : Byte) (align : Nat) (pos : Nat) (latch : Byte)
  /-- DMC sample fetch: address, stall cycles already spent. -/
  | dmc (addr : Word) (pos : Nat)
  deriving DecidableEq, Repr

/-- The PPU as the CPU sees it (rules R350 to R357). `scanline` and `dot` name the next dot to run. -/
structure Ppu where
  ctrl         : Byte
  mask         : Byte
  vblank       : Bool
  spriteZero   : Bool
  overflow     : Bool
  cancelVblank : Bool
  oamAddr      : Byte
  oam          : Memory
  palette      : Memory
  vram         : Memory
  v            : BitVec 15
  t            : BitVec 15
  fineX        : BitVec 3
  w            : Bool
  buffer       : Byte
  scanline     : Nat
  dot          : Nat
  oddFrame     : Bool
  frameDone    : Bool
  deriving DecidableEq, Repr, Inhabited

/-- The APU as the CPU sees it (rules R358 to R360). `regs` is keyed by CPU address 0x4000 to 0x4013. -/
structure Apu where
  regs        : Memory
  enable      : Byte
  fiveStep    : Bool
  irqInhibit  : Bool
  frameStep   : Nat
  frameIrq    : Bool
  lenPulse1   : Byte
  lenPulse2   : Byte
  lenTriangle : Byte
  lenNoise    : Byte
  dmcActive   : Bool
  dmcIrq      : Bool
  dmcBuffer   : Byte
  deriving DecidableEq, Repr, Inhabited

/-- The two controllers (rule R363): the host's input snapshots, the shift latches, the read indexes, the strobe bit. -/
structure Pads where
  input1 : Byte
  input2 : Byte
  latch1 : Byte
  latch2 : Byte
  index1 : Nat
  index2 : Nat
  strobe : Bool
  deriving DecidableEq, Repr, Inhabited

/-- Nametable mirroring (rules R352, R371, R373, R376). -/
inductive Mirroring where
  | horizontal
  | vertical
  | fourScreen
  | oneLower
  | oneUpper
  deriving DecidableEq, Repr, Inhabited

/-- MMC1's registers (rule R373): shift register and how many bits it holds, the four targets, the last write's stamp. -/
structure Mmc1 where
  shift     : BitVec 5
  count     : Nat
  control   : BitVec 5
  chr0      : BitVec 5
  chr1      : BitVec 5
  prg       : BitVec 5
  lastWrite : Option (BitVec 64)
  deriving DecidableEq, Repr, Inhabited

/-- MMC3's registers (rule R376). `banks` is keyed 0 to 7 for R0 to R7; `a12` is the last sampled PPU A12 level. -/
structure Mmc3 where
  select     : Byte
  banks      : Memory
  horizontal : Bool
  protect    : Byte
  latch      : Byte
  counter    : Byte
  reload     : Bool
  enabled    : Bool
  pending    : Bool
  a12        : Bool
  deriving DecidableEq, Repr, Inhabited

/-- The supported mappers as a closed tagged variant (rules R371 and R377). -/
inductive Mapper where
  | nrom
  | mmc1 (m : Mmc1)
  | uxrom (bank : Byte)
  | cnrom (bank : BitVec 2)
  | mmc3 (m : Mmc3)
  deriving DecidableEq, Repr, Inhabited

/-- The cartridge (rules R370, R371): mapper, 16 KiB PRG banks, 8 KiB CHR banks (0: CHR-RAM), contents, PRG-RAM. -/
structure Cart where
  mapper        : Mapper
  prgBanks      : Nat
  prg           : Memory
  chrBanks      : Nat
  chr           : Memory
  mirroring     : Mirroring
  battery       : Bool
  prgRamPresent : Bool
  prgRam        : Memory
  deriving DecidableEq, Repr, Inhabited

/-- The whole machine at a step boundary. -/
structure State where
  a          : Byte
  x          : Byte
  y          : Byte
  s          : Byte
  pc         : Word
  p          : Flags
  cycles     : BitVec 64
  nmiPrev    : Bool
  nmiPending : Bool
  irqSample  : Bool
  stall      : Nat
  resetReq   : Bool
  coldReset  : Bool
  stuck      : Option Byte
  openBus    : Byte
  ram        : Memory
  dma        : List DmaJob
  ppu        : Ppu
  apu        : Apu
  pads       : Pads
  cart       : Cart
  params     : Params
  free       : Nat
  deriving DecidableEq, Repr

/-- No behaviour of this hardware is a fault (93_implementation_defined.md Part 1; rules R75 and R328), so there is no
constructor: nothing raises one. -/
inductive Fault where
  deriving DecidableEq, Repr

/-- Why a step has no next state. -/
inductive Refusal where
  /-- Raised by an arm of `exec` for an instruction the model gives no meaning yet; safe. No arm raises it now. -/
  | notModelled (mnemonic : String)
  /-- Raised by `step` in the stuck state of a refused opcode, under UNSTABLE_OPCODE_POLICY or JAM_POLICY `refuse`
  (rules R296 and R343), until a reset is requested; safe, the spec's own outcome `refuse(opcode)`. -/
  | opcodeRefused (opcode : Byte)
  deriving DecidableEq, Repr

/-- What one step or one instruction answers. -/
abbrev Result := Host.Outcome State Fault Refusal

/-- MMC1 at power-on: PRG mode 3, everything else 0 (decision D40). -/
def Mmc1.powerOn : Mmc1 := ⟨0#5, 0, 0x0C#5, 0#5, 0#5, 0#5, none⟩

/-- MMC3 at power-on: every register, the latch and the counter 0, IRQ disabled and not asserted (decision D40). -/
def Mmc3.powerOn : Mmc3 := ⟨0#8, [], false, 0#8, 0#8, 0#8, false, false, false, false⟩

/-- A mapper's registers at power-on (rules R373 to R376, decision D40). -/
def Mapper.powerOn : Mapper → Mapper
  | .nrom => .nrom
  | .mmc1 _ => .mmc1 Mmc1.powerOn
  | .uxrom _ => .uxrom 0#8
  | .cnrom _ => .cnrom 0#2
  | .mmc3 _ => .mmc3 Mmc3.powerOn

/-- A loaded cartridge at power-on: its mapper's registers at their power-on values, everything else as loaded. -/
def Cart.powerOn (c : Cart) : Cart := { c with mapper := c.mapper.powerOn }

/-- The PPU at power-on (rule R354, decision D35). -/
def Ppu.powerOn : Ppu :=
  { ctrl := 0#8, mask := 0#8, vblank := false, spriteZero := false, overflow := false, cancelVblank := false,
    oamAddr := 0#8, oam := [], palette := [], vram := [], v := 0#15, t := 0#15, fineX := 0#3, w := false,
    buffer := 0#8, scanline := 0, dot := 0, oddFrame := false, frameDone := false }

/-- The APU at power-on. PRESUMED (log 12): the spec leaves it open. -/
def Apu.powerOn : Apu :=
  { regs := [], enable := 0#8, fiveStep := false, irqInhibit := false, frameStep := 0, frameIrq := false,
    lenPulse1 := 0#8, lenPulse2 := 0#8, lenTriangle := 0#8, lenNoise := 0#8, dmcActive := false, dmcIrq := false,
    dmcBuffer := 0#8 }

/-- Both controllers with nothing pressed. DESIGN CHOICE (log 26). -/
def Pads.powerOn : Pads := ⟨0#8, 0#8, 0#8, 0#8, 0, 0, false⟩

/-- NROM with 32 KiB of PRG-ROM, every byte 0x00, CHR-RAM, no PRG-RAM: the cartridge of the spec's own vectors
(95_test_vectors.md section 2). DESIGN CHOICE (log 4). -/
def Cart.blank : Cart :=
  { mapper := .nrom, prgBanks := 2, prg := [], chrBanks := 0, chr := [], mirroring := .horizontal, battery := false,
    prgRamPresent := false, prgRam := [] }

/-- The OPEN power-on parameters (Table 00-A): POWERON_STATE, RAM_INIT, OPEN_BUS_INIT and the step's parameters. -/
structure PowerOn where
  a       : Byte
  x       : Byte
  y       : Byte
  s       : Byte
  pc      : Word
  p       : Flags
  ram     : Memory
  openBus : Byte
  params  : Params
  deriving DecidableEq, Repr

/-- The values the spec's own programs give the OPEN parameters (95_test_vectors.md section 3). DESIGN CHOICE (log 1). -/
def PowerOn.zero : PowerOn :=
  ⟨0#8, 0#8, 0#8, 0#8, 0#16, ⟨false, false, false, false, false, false⟩, [], 0#8, Params.default⟩

/-- Power-on with a loaded cartridge (rule R401, Table 10-B): the counter and the latches 0, the devices and the mapper's
registers at power-on, and a reset requested, the cold one, so that the first step is the reset sequence. -/
def State.powerOn (q : PowerOn) (cart : Cart) : State :=
  { a := q.a, x := q.x, y := q.y, s := q.s, pc := q.pc, p := q.p, cycles := 0#64, nmiPrev := false,
    nmiPending := false, irqSample := false, stall := 0, resetReq := true, coldReset := true, stuck := none,
    openBus := q.openBus, ram := q.ram, dma := [], ppu := Ppu.powerOn, apu := Apu.powerOn, pads := Pads.powerOn,
    cart := cart.powerOn,
    params := q.params, free := 0 }

/-- The machine right after reset (Table 10-B, column "after a reset sequence", for a power-on with `PowerOn.zero` and
`Cart.blank`): S = 0xFD, I = 1, PC from the reset vector, 7 cycles counted, 21 dots run (log 4). -/
def State.reset : State :=
  { a := 0#8, x := 0#8, y := 0#8, s := 0xFD#8, pc := 0x0000#16, p := ⟨false, false, false, true, false, false⟩,
    cycles := 7#64, nmiPrev := false, nmiPending := false, irqSample := false, stall := 0, resetReq := false,
    coldReset := false, stuck := none, openBus := 0#8, ram := [], dma := [],
    ppu := { Ppu.powerOn with dot := 21 },
    apu := Apu.powerOn, pads := Pads.powerOn, cart := Cart.blank, params := Params.default, free := 7 }

end Sys2Proof.Machine

/-- FREE VALUE (log 6): what a warm reset does to the PPU when DEVICE_RESET is not the default. -/
opaque Sys2Proof.Config.resetPpu : Nat → Sys2Proof.Machine.Ppu → Sys2Proof.Machine.Ppu

/-- FREE VALUE (log 6): what it does to the APU. -/
opaque Sys2Proof.Config.resetApu : Nat → Sys2Proof.Machine.Apu → Sys2Proof.Machine.Apu

/-- FREE VALUE (log 6): what it does to the registers of an MMC1. -/
opaque Sys2Proof.Config.resetMmc1 : Nat → Sys2Proof.Machine.Mmc1 → Sys2Proof.Machine.Mmc1

/-- FREE VALUE (log 6): what it does to UxROM's bank register. -/
opaque Sys2Proof.Config.resetUxrom : Nat → Sys2Proof.Byte → Sys2Proof.Byte

/-- FREE VALUE (log 6): what it does to CNROM's bank register. -/
opaque Sys2Proof.Config.resetCnrom : Nat → BitVec 2 → BitVec 2

/-- FREE VALUE (log 6): what it does to the registers of an MMC3. -/
opaque Sys2Proof.Config.resetMmc3 : Nat → Sys2Proof.Machine.Mmc3 → Sys2Proof.Machine.Mmc3
end

