-- ==== Sys2Proof/Machine/Apu.lean ====
section
/-! DEFINITION. The APU and the controllers as the CPU sees them: registers, status, frame counter, length counters,
DMC requests (rules R358 to R360, R366), controller ports (rule R363). -/

namespace Sys2Proof.Machine

/-- A length counter after one length clock: down by 1 unless 0 or halted (the halt bits are PRESUMED, log 10). -/
def lengthTick (halt : Bool) (k : Byte) : Byte := if halt || k == 0#8 then k else k - 1#8

/-- A length clock: all four counters (rules R359, R361). -/
def Apu.clockLengths (u : Apu) : Apu :=
  { u with
    lenPulse1 := lengthTick ((u.regs.read 0x4000).getLsbD 5) u.lenPulse1
    lenPulse2 := lengthTick ((u.regs.read 0x4004).getLsbD 5) u.lenPulse2
    lenTriangle := lengthTick ((u.regs.read 0x4008).getLsbD 7) u.lenTriangle
    lenNoise := lengthTick ((u.regs.read 0x400C).getLsbD 5) u.lenNoise }

/-- Whether frame-counter step `k` clocks lengths and sweeps: steps 1 and 3, or 0 and 2 in 5-step mode (rule R359). -/
def Apu.stepClocksLength (u : Apu) : Bool :=
  if u.fiveStep then u.frameStep == 0 || u.frameStep == 2 else u.frameStep == 1 || u.frameStep == 3

/-- The step after the present one: 4 or 5 steps (rule R359). -/
def Apu.nextFrameStep (u : Apu) : Nat :=
  if u.frameStep + 1 < (if u.fiveStep then 5 else 4) then u.frameStep + 1 else 0

/-- Whether the frame IRQ is raised in this cycle: 4-step mode, inhibit clear, step 3 (rule R359). -/
def Apu.raisesFrameIrq (u : Apu) (n : Nat) : Bool :=
  !u.irqInhibit && !u.fiveStep && u.frameStep == 3 && Config.frameStepDue n

/-- The frame counter in one CPU cycle; when it steps is the free value APU_TIMING (rule R359, log 8). -/
def Apu.frameCycle (u : Apu) (n : Nat) : Apu :=
  let due := Config.frameStepDue n
  let k := u.clockLengths
  let clk := u.stepClocksLength && due
  { u with
    frameIrq := u.frameIrq || u.raisesFrameIrq n
    frameStep := if due then u.nextFrameStep else u.frameStep
    lenPulse1 := if clk then k.lenPulse1 else u.lenPulse1
    lenPulse2 := if clk then k.lenPulse2 else u.lenPulse2
    lenTriangle := if clk then k.lenTriangle else u.lenTriangle
    lenNoise := if clk then k.lenNoise else u.lenNoise }

/-- Whether the DMC requests a sample byte in this CPU cycle (rule R366, log 8). -/
def Apu.dmcRequests (u : Apu) (n : Nat) : Bool := u.dmcActive && Config.dmcFetchDue n

/-- Whether this cycle's request ends a sample (rule R360). PRESUMED (log 11): a sample with 0x4010 bit 6 set loops, and a
looping sample never ends, so it raises no IRQ. -/
def Apu.dmcStops (u : Apu) (n : Nat) : Bool :=
  u.dmcRequests n && !(u.regs.read 0x4010).getLsbD 6 && Config.dmcSampleEnds n

/-- The DMC in one CPU cycle: at the sample's end it stops, with an IRQ if 0x4010 bit 7 enables it (rule R360; log 11).
DESIGN CHOICE (log 11): the end falls in the cycle of the last byte's request, before that byte is read. -/
def Apu.dmcCycle (u : Apu) (n : Nat) : Apu :=
  { u with
    dmcActive := u.dmcActive && !u.dmcStops n
    dmcIrq := u.dmcIrq || (u.dmcStops n && (u.regs.read 0x4010).getLsbD 7) }

/-- One APU cycle (rule R364). -/
def Apu.tick (u : Apu) (n : Nat) : Apu := (u.frameCycle n).dmcCycle n

/-- The APU's part of the IRQ line (rule R335). -/
def Apu.irq (u : Apu) : Bool := u.frameIrq || u.dmcIrq

/-- A read of 0x4015: length counters nonzero, DMC active, open bus in bit 5, the IRQ flags; it clears the frame IRQ
flag (rule R358, decision D38). -/
def Apu.statusRead (u : Apu) (openBus : Byte) : Byte × Apu :=
  (BitVec.ofBool u.dmcIrq ++ BitVec.ofBool u.frameIrq ++ BitVec.ofBool (openBus.getLsbD 5) ++
      BitVec.ofBool u.dmcActive ++ BitVec.ofBool (u.lenNoise != 0#8) ++ BitVec.ofBool (u.lenTriangle != 0#8) ++
      BitVec.ofBool (u.lenPulse2 != 0#8) ++ BitVec.ofBool (u.lenPulse1 != 0#8),
    { u with frameIrq := false })

/-- The length a write of `d` to a channel's fourth register loads, if the channel is enabled (scenario 6; log 10). -/
def loadLength (enabled : Bool) (d : Byte) (k : Byte) : Byte :=
  if enabled then Config.lengthTable (d.extractLsb' 3 5) else k

/-- A write of 0x4000 to 0x4013 (rule R358; the DMC IRQ enable bit is PRESUMED, log 11). -/
def Apu.channelWrite (u : Apu) (a : Nat) (d : Byte) : Apu :=
  { u with
    regs := u.regs.write a d
    lenPulse1 := if a = 0x4003 then loadLength (u.enable.getLsbD 0) d u.lenPulse1 else u.lenPulse1
    lenPulse2 := if a = 0x4007 then loadLength (u.enable.getLsbD 1) d u.lenPulse2 else u.lenPulse2
    lenTriangle := if a = 0x400B then loadLength (u.enable.getLsbD 2) d u.lenTriangle else u.lenTriangle
    lenNoise := if a = 0x400F then loadLength (u.enable.getLsbD 3) d u.lenNoise else u.lenNoise
    dmcIrq := if a = 0x4010 && !d.getLsbD 7 then false else u.dmcIrq }

/-- A write of 0x4015: channel enables; a disabled channel's length becomes 0, the DMC starts or stops, the DMC IRQ is
acknowledged (rule R358; PRESUMED, logs 10 and 11). -/
def Apu.enableWrite (u : Apu) (d : Byte) : Apu :=
  { u with
    enable := d &&& 0x1F#8
    lenPulse1 := if d.getLsbD 0 then u.lenPulse1 else 0#8
    lenPulse2 := if d.getLsbD 1 then u.lenPulse2 else 0#8
    lenTriangle := if d.getLsbD 2 then u.lenTriangle else 0#8
    lenNoise := if d.getLsbD 3 then u.lenNoise else 0#8
    dmcActive := d.getLsbD 4
    dmcIrq := false }

/-- A write of 0x4017: mode and IRQ inhibit; the inhibit bit acknowledges the frame IRQ, bit 7 clocks the lengths at once
(rules R358, R359; that the step restarts at 0 is PRESUMED, log 9). -/
def Apu.frameWrite (u : Apu) (d : Byte) : Apu :=
  let u' := { u with
    fiveStep := d.getLsbD 7
    irqInhibit := d.getLsbD 6
    frameStep := 0
    frameIrq := u.frameIrq && !d.getLsbD 6 }
  if d.getLsbD 7 then u'.clockLengths else u'

/-- A write of 0x4016: a 1 in bit 0 copies the input snapshots into the latches and restarts the reads (rule R363). -/
def Pads.strobeWrite (k : Pads) (d : Byte) : Pads :=
  if d.getLsbD 0 then
    { k with strobe := true, latch1 := k.input1, latch2 := k.input2, index1 := 0, index2 := 0 }
  else
    { k with strobe := false }

/-- The bit a controller read returns: button A while the strobe is held, bit `index` of the latch, 1 after eight reads
(rule R363, decision D37). -/
def padBit (strobe : Bool) (latch : Byte) (index : Nat) : Bool :=
  if strobe then latch.getLsbD 0 else if index < 8 then latch.getLsbD index else true

/-- The read index after a read: unchanged while the strobe is held, else up by 1, at most 8 (rule R363). -/
def padIndex (strobe : Bool) (index : Nat) : Nat :=
  if strobe then index else if index < 8 then index + 1 else index

/-- `(open_bus & 0xE0) | b` (rule R363). -/
def padByte (openBus : Byte) (b : Bool) : Byte := (openBus &&& 0xE0#8) ||| (if b then 1#8 else 0#8)

/-- A read of 0x4016, controller 1 (rule R363). -/
def Pads.read1 (k : Pads) (openBus : Byte) : Byte × Pads :=
  (padByte openBus (padBit k.strobe k.latch1 k.index1), { k with index1 := padIndex k.strobe k.index1 })

/-- A read of 0x4017, controller 2 (rule R363). -/
def Pads.read2 (k : Pads) (openBus : Byte) : Byte × Pads :=
  (padByte openBus (padBit k.strobe k.latch2 k.index2), { k with index2 := padIndex k.strobe k.index2 })

end Sys2Proof.Machine
end

