-- ==== Sys2Proof/Machine/Bits.lean ====
section
/-! DEFINITION. Bit-field, sign-extension and byte-order helpers (notation of rules R9 and R10). -/

namespace Sys2Proof

/-- `lo(w)`, bits 7 to 0 of a 16-bit value. -/
def lo (w : Word) : Byte := w.setWidth 8

/-- `hi(w)`, bits 15 to 8 of a 16-bit value. -/
def hi (w : Word) : Byte := (w >>> 8).setWidth 8

/-- `h:l`, the 16-bit concatenation of two bytes; in memory the low byte lies at the lower address (rule R76). -/
def mkWord (h l : Byte) : Word := h ++ l

/-- `zext_16(b)`. -/
def zext (b : Byte) : Word := b.setWidth 16

/-- `sext_16(b)`. -/
def sext (b : Byte) : Word := b.signExtend 16

/-- `0x0100 | S`, the stack byte S designates (rules R24 and R70). -/
def stackAddr (s : Byte) : Word := mkWord 0x01#8 s

end Sys2Proof
end

