-- ==== Sys2Proof/Machine/Flags.lean ====
section
/-! DEFINITION. Every flag computation of the spec: SetNZ, the pushed image, the adder, the comparison, the shifts
(rules R13, R27, R28, R200, R206, R230). -/

namespace Sys2Proof.Machine

/-- `SetNZ(v)`: N is bit 7, Z is "equal to 0" (rule R13). -/
def Flags.setNZ (p : Flags) (v : Byte) : Flags := { p with n := v.getLsbD 7, z := v == 0#8 }

/-- `Pack(b)`: N V 1 b D I Z C from bit 7 down (rule R27). -/
def Flags.pack (p : Flags) (b : Bool) : Byte :=
  BitVec.ofBool p.n ++ BitVec.ofBool p.v ++ 1#1 ++ BitVec.ofBool b ++ BitVec.ofBool p.d ++ BitVec.ofBool p.i ++
    BitVec.ofBool p.z ++ BitVec.ofBool p.c

/-- `Unpack(v)`: bits 5 and 4 are discarded (rule R28). -/
def Flags.unpack (v : Byte) : Flags :=
  { n := v.getLsbD 7, v := v.getLsbD 6, d := v.getLsbD 3, i := v.getLsbD 2, z := v.getLsbD 1, c := v.getLsbD 0 }

/-- What the 8-bit adder gives: the result, the carry out and the signed overflow (rule R200). -/
structure AddResult where
  r : Byte
  c : Bool
  v : Bool
  deriving DecidableEq, Repr

/-- The binary adder of `Add8(a, b, cin)` (rule R200); D is not read. -/
def add8 (a b : Byte) (cin : Bool) : AddResult :=
  let sum := a.toNat + b.toNat + cin.toNat
  let r := BitVec.ofNat 8 sum
  { r := r, c := decide (0xFF < sum), v := ((a ^^^ r) &&& (b ^^^ r)).getLsbD 7 }

/-- The flags `Add8` leaves (rule R200). -/
def Flags.afterAdd (p : Flags) (q : AddResult) : Flags := { p with c := q.c, v := q.v }.setNZ q.r

/-- `Compare(r, m)`: C is the unsigned `r >= m`, N and Z describe the difference, V is unchanged (rule R206). -/
def Flags.compare (p : Flags) (r m : Byte) : Flags := { p with c := decide (m.toNat ≤ r.toNat) }.setNZ (r - m)

/-- A shift's result and carry out. -/
structure ShiftResult where
  r : Byte
  c : Bool
  deriving DecidableEq, Repr

/-- `ASLf(m)` (rule R230). -/
def aslByte (m : Byte) : ShiftResult := ⟨m <<< 1, m.getLsbD 7⟩

/-- `LSRf(m)` (rule R230). -/
def lsrByte (m : Byte) : ShiftResult := ⟨m >>> 1, m.getLsbD 0⟩

/-- `ROLf(m)` with the old carry `c` (rule R230). -/
def rolByte (c : Bool) (m : Byte) : ShiftResult := ⟨(m <<< 1) ||| (if c then 0x01#8 else 0#8), m.getLsbD 7⟩

/-- `RORf(m)` with the old carry `c` (rule R230). -/
def rorByte (c : Bool) (m : Byte) : ShiftResult := ⟨(m >>> 1) ||| (if c then 0x80#8 else 0#8), m.getLsbD 0⟩

/-- The flags a shift helper leaves: C, then N and Z of the result; V is never changed (rule R230). -/
def Flags.afterShift (p : Flags) (q : ShiftResult) : Flags := { p with c := q.c }.setNZ q.r

end Sys2Proof.Machine
end

