-- ==== Sys2Proof/Machine/Cart.lean ====
section
/-! DEFINITION. The cartridge mapper on the CPU bus and on the PPU bus (rules R370 to R377): which byte each address
shows, and what a write does to the mapper's registers. -/

namespace Sys2Proof.Machine

/-- Number of PRG-ROM bytes (16 KiB banks, rule R371). -/
def Cart.prgSize (c : Cart) : Nat := c.prgBanks * 0x4000

/-- Number of CHR bytes: 8 KiB banks, or CHR-RAM when the count is zero (rule R371), of 8 KiB (PRESUMED, log 32). -/
def Cart.chrSize (c : Cart) : Nat := if c.chrBanks = 0 then 0x2000 else c.chrBanks * 0x2000

/-- Offset in PRG-ROM of a 16 KiB bank's byte. Bank numbers are reduced modulo the number of banks (rule R374;
DEDUCED for the other mappers, log 21). -/
def Cart.bank16 (c : Cart) (bank offset : Nat) : Nat := (bank % c.prgBanks) * 0x4000 + offset % 0x4000

/-- Offset in PRG-ROM of an 8 KiB bank's byte (MMC3; log 18). -/
def Cart.bank8 (c : Cart) (bank offset : Nat) : Nat := (bank % (2 * c.prgBanks)) * 0x2000 + offset % 0x2000

/-- MMC1's PRG mode, control bits 3:2 (rule R373). -/
def Mmc1.prgMode (m : Mmc1) : Nat := (m.control.extractLsb' 2 2).toNat

/-- MMC1's PRG bank number: the whole 5-bit register (rule R373). -/
def Mmc1.prgBank (m : Mmc1) : Nat := m.prg.toNat

/-- The PRG-ROM offset MMC1 shows at `a` (0x8000 to 0xFFFF), rule R373. -/
def Mmc1.prgOffset (m : Mmc1) (c : Cart) (a : Nat) : Nat :=
  if m.prgMode = 3 then
    if a < 0xC000 then c.bank16 m.prgBank a else c.bank16 (c.prgBanks - 1) a
  else if m.prgMode = 2 then
    if a < 0xC000 then c.bank16 0 a else c.bank16 m.prgBank a
  else
    c.bank16 (m.prgBank / 2 * 2 + (a - 0x8000) / 0x4000) a

/-- Register R`k` of MMC3 (rule R376). -/
def Mmc3.bankReg (m : Mmc3) (k : Nat) : Nat := (m.banks.read k).toNat

/-- The PRG-ROM offset MMC3 shows at `a` (0x8000 to 0xFFFF): R6, R7, the second-to-last and the last 8 KiB bank, the
first and third exchanged by bank-select bit 6. PRESUMED (log 18) but for the last bank at 0xE000 (rule R410). -/
def Mmc3.prgOffset (m : Mmc3) (c : Cart) (a : Nat) : Nat :=
  let last := 2 * c.prgBanks - 1
  if 0xE000 ≤ a then c.bank8 last a
  else if 0xC000 ≤ a then
    if m.select.getLsbD 6 then c.bank8 (m.bankReg 6) a else c.bank8 (last - 1) a
  else if 0xA000 ≤ a then c.bank8 (m.bankReg 7) a
  else if m.select.getLsbD 6 then c.bank8 (last - 1) a else c.bank8 (m.bankReg 6) a

/-- The PRG-ROM offset shown at CPU address `a` (0x8000 to 0xFFFF), per mapper (rules R372 to R376). -/
def Cart.prgOffset (c : Cart) (a : Nat) : Nat :=
  match c.mapper with
  | .nrom => (a - 0x8000) % c.prgSize
  | .cnrom _ => (a - 0x8000) % c.prgSize
  | .uxrom bank => if a < 0xC000 then c.bank16 bank.toNat a else c.bank16 (c.prgBanks - 1) a
  | .mmc1 m => m.prgOffset c a
  | .mmc3 m => m.prgOffset c a

/-- The byte the cartridge drives at CPU address `a` (0x4020 to 0xFFFF), or none where it leaves the bus undriven:
0x4020 to 0x5FFF, and 0x6000 to 0x7FFF without PRG-RAM (rule R371, decision D40). -/
def Cart.cpuRead? (c : Cart) (a : Nat) : Option Byte :=
  if a < 0x6000 then none
  else if a < 0x8000 then
    if c.prgRamPresent then some (c.prgRam.read (a - 0x6000)) else none
  else if c.prgBanks = 0 then none
  else some (c.prg.read (c.prgOffset a))

/-- MMC1's registers after a write of `d` at `a` (0x8000 to 0xFFFF) that is not ignored (rule R373). -/
def Mmc1.load (m : Mmc1) (a : Nat) (d : Byte) : Mmc1 :=
  if d.getLsbD 7 then
    { m with shift := 0#5, count := 0, control := m.control ||| 0x0C#5 }
  else
    let shifted : BitVec 5 := (m.shift >>> 1) ||| (if d.getLsbD 0 then 0x10#5 else 0#5)
    if m.count < 4 then
      { m with shift := shifted, count := m.count + 1 }
    else
      let m' := { m with shift := 0#5, count := 0 }
      match a / 0x2000 % 4 with
      | 0 => { m' with control := shifted }
      | 1 => { m' with chr0 := shifted }
      | 2 => { m' with chr1 := shifted }
      | _ => { m' with prg := shifted }

/-- MMC1 ignores a write whose stamp is one more than that of the previous write to the mapper (rule R373, C4). -/
def Mmc1.ignores (m : Mmc1) (stamp : BitVec 64) : Bool := m.lastWrite == some (stamp - 1#64)

/-- MMC1's registers after any CPU write to the cartridge range, stamped `stamp` (rule R373). -/
def Mmc1.cpuWrite (m : Mmc1) (a : Nat) (d : Byte) (stamp : BitVec 64) : Mmc1 :=
  let m' := if a < 0x8000 || m.ignores stamp then m else m.load a d
  { m' with lastWrite := some stamp }

/-- MMC3's registers after a write of `d` at `a` (0x8000 to 0xFFFF), rule R376. -/
def Mmc3.cpuWrite (m : Mmc3) (a : Nat) (d : Byte) : Mmc3 :=
  let odd := a % 2 = 1
  if a < 0xA000 then
    if odd then { m with banks := m.banks.write (m.select.toNat % 8) d } else { m with select := d }
  else if a < 0xC000 then
    if odd then { m with protect := d } else { m with horizontal := d.getLsbD 0 }
  else if a < 0xE000 then
    if odd then { m with reload := true } else { m with latch := d }
  else
    if odd then { m with enabled := true } else { m with enabled := false, pending := false }

/-- The mapper's registers after a CPU write of `d` at `a` (0x4020 to 0xFFFF), rules R372 to R376. -/
def Mapper.cpuWrite (m : Mapper) (a : Nat) (d : Byte) (stamp : BitVec 64) : Mapper :=
  match m with
  | .nrom => .nrom
  | .mmc1 m => .mmc1 (m.cpuWrite a d stamp)
  | .uxrom bank => if a < 0x8000 then .uxrom bank else .uxrom d
  | .cnrom bank => if a < 0x8000 then .cnrom bank else .cnrom (d.setWidth 2)
  | .mmc3 m => if a < 0x8000 then .mmc3 m else .mmc3 (m.cpuWrite a d)

/-- MMC3's PRG-RAM protect register denies writes with bit 6 set (PRESUMED, log 19). -/
def Mapper.prgRamWritable : Mapper → Bool
  | .mmc3 m => !m.protect.getLsbD 6
  | _ => true

/-- `cpu_write(a, d)` (0x4020 to 0xFFFF): PRG-RAM takes the byte, the mapper's registers see every write, PRG-ROM never
changes (rule R370, decision D21). -/
def Cart.cpuWrite (c : Cart) (a : Nat) (d : Byte) (stamp : BitVec 64) : Cart :=
  { c with
    mapper := c.mapper.cpuWrite a d stamp
    prgRam :=
      if 0x6000 ≤ a && a < 0x8000 && c.prgRamPresent && c.mapper.prgRamWritable then c.prgRam.write (a - 0x6000) d
      else c.prgRam }

/-- The CHR offset MMC3 shows at PPU address `a` (0x0000 to 0x1FFF): two 2 KiB banks (R0, R1) and four 1 KiB banks (R2
to R5), the halves exchanged by bank-select bit 7. PRESUMED (log 18). -/
def Mmc3.chrOffset (m : Mmc3) (a : Nat) : Nat :=
  let a' := if m.select.getLsbD 7 then (a + 0x1000) % 0x2000 else a
  if a' < 0x1000 then
    m.bankReg (a' / 0x800) / 2 * 0x800 + a' % 0x800
  else
    m.bankReg (2 + (a' - 0x1000) / 0x400) * 0x400 + a' % 0x400

/-- The CHR offset MMC1 shows at PPU address `a`: control bit 4 selects one 8 KiB or two 4 KiB banks (rule R373). -/
def Mmc1.chrOffset (m : Mmc1) (a : Nat) : Nat :=
  if m.control.getLsbD 4 then
    (if a < 0x1000 then m.chr0.toNat else m.chr1.toNat) * 0x1000 + a % 0x1000
  else
    m.chr0.toNat / 2 * 0x2000 + a

/-- The CHR offset shown at PPU address `a` (0x0000 to 0x1FFF), reduced modulo the CHR size (log 21). UxROM shows its CHR
unbanked (PRESUMED, log 32). -/
def Cart.chrOffset (c : Cart) (a : Nat) : Nat :=
  (match c.mapper with
   | .nrom => a
   | .uxrom _ => a
   | .cnrom bank => bank.toNat * 0x2000 + a
   | .mmc1 m => m.chrOffset a
   | .mmc3 m => m.chrOffset a) % c.chrSize

/-- `ppu_read(a)` over the pattern tables (rule R370). -/
def Cart.ppuRead (c : Cart) (a : Nat) : Byte := c.chr.read (c.chrOffset a)

/-- `ppu_write(a, d)` over the pattern tables: only CHR-RAM changes (rules R370, R371). -/
def Cart.ppuWrite (c : Cart) (a : Nat) (d : Byte) : Cart :=
  if c.chrBanks = 0 then { c with chr := c.chr.write (c.chrOffset a) d } else c

/-- The mirroring the mapper reports (rule R377): MMC1's control bits 1:0, MMC3's register unless the board is
four-screen (PRESUMED, log 16), else the header's. -/
def Cart.mirror (c : Cart) : Mirroring :=
  match c.mapper with
  | .mmc1 m =>
    match (m.control.extractLsb' 0 2).toNat with
    | 0 => .oneLower
    | 1 => .oneUpper
    | 2 => .vertical
    | _ => .horizontal
  | .mmc3 m =>
    if c.mirroring = .fourScreen then .fourScreen else if m.horizontal then .horizontal else .vertical
  | _ => c.mirroring

/-- MMC3's scanline counter on a filtered A12 rising edge (rule R376). -/
def Mmc3.clock (m : Mmc3) : Mmc3 :=
  let next := if m.counter = 0#8 || m.reload then m.latch else m.counter - 1#8
  { m with counter := next, reload := false, pending := m.pending || (m.enabled && next == 0#8) }

/-- MMC3 samples A12 once a dot; a high sample after a low one is a rising edge (rule R376; log 15). -/
def Mmc3.sampleA12 (level : Bool) (m : Mmc3) : Mmc3 :=
  { (if level && !m.a12 then m.clock else m) with a12 := level }

/-- The mapper after one PPU dot with A12 at `level`. -/
def Mapper.sampleA12 (level : Bool) (m : Mapper) : Mapper :=
  match m with
  | .mmc3 m => .mmc3 (m.sampleA12 level)
  | other => other

/-- The mapper's IRQ output (rules R335, R376). -/
def Mapper.irq : Mapper → Bool
  | .mmc3 m => m.pending
  | _ => false

end Sys2Proof.Machine
end

