-- ==== Sys2Proof/Machine/Ppu.lean ====
section
/-! DEFINITION. The PPU as the CPU sees it: the register window, the PPU bus, the dot counter with the vblank flag and
its race, the NMI output (rules R350 to R357). -/

namespace Sys2Proof.Machine

/-- The offset in nametable RAM of PPU address `a` (0x2000 to 0x3EFF), folded by the mirroring (rule R352; the folds of
each mode are PRESUMED, log 16). -/
def vramOffset (m : Mirroring) (a : Nat) : Nat :=
  let table := a / 0x400 % 4
  let within := a % 0x400
  match m with
  | .horizontal => table / 2 * 0x400 + within
  | .vertical => table % 2 * 0x400 + within
  | .fourScreen => table * 0x400 + within
  | .oneLower => within
  | .oneUpper => 0x400 + within

/-- The palette index of PPU address `a`: 32 bytes repeated, 0x10/14/18/1C folded onto 0x00/04/08/0C (rule R352). -/
def paletteIndex (a : Nat) : Nat :=
  let k := a % 0x20
  if k % 4 = 0 then k % 0x10 else k

/-- The 14-bit PPU-bus address an access through `v` uses (rule R352). -/
def Ppu.busAddr (p : Ppu) : Nat := p.v.toNat % 0x4000

/-- The nametable byte at PPU address `a`. -/
def Ppu.vramRead (p : Ppu) (c : Cart) (a : Nat) : Byte := p.vram.read (vramOffset c.mirror a)

/-- The PPU-bus byte at `a` below the palette (rule R352). -/
def Ppu.busRead (p : Ppu) (c : Cart) (a : Nat) : Byte :=
  if a < 0x2000 then c.ppuRead a else p.vramRead c a

/-- The palette byte at `a`. -/
def Ppu.paletteRead (p : Ppu) (a : Nat) : Byte := p.palette.read (paletteIndex a)

/-- `v` after a PPUDATA access: plus 1, or 32 with PPUCTRL bit 2, modulo 2^15 (rule R356). -/
def Ppu.advanceV (p : Ppu) : Ppu :=
  { p with v := p.v + (if p.ctrl.getLsbD 2 then 32#15 else 1#15) }

/-- A PPUDATA read: the buffer, which is then loaded from `v`; a palette read bypasses the buffer and loads it with the
nametable byte underneath (rule R356). -/
def Ppu.dataRead (p : Ppu) (c : Cart) : Byte × Ppu :=
  let a := p.busAddr
  if a < 0x3F00 then
    (p.buffer, { p with buffer := p.busRead c a }.advanceV)
  else
    (p.paletteRead a, { p with buffer := p.vramRead c (a - 0x1000) }.advanceV)

/-- Whether background or sprite rendering is enabled (PPUMASK bits 3 and 4). -/
def Ppu.rendering (p : Ppu) : Bool := p.mask.getLsbD 3 || p.mask.getLsbD 4

/-- The position after the dot at `(scanline, dot)`: 341 dots a scanline, 262 scanlines a frame; on an odd frame with
rendering enabled dot (0, 0) is skipped (rule R354). -/
def Ppu.nextPos (p : Ppu) : Ppu :=
  if p.dot < 340 then { p with dot := p.dot + 1 }
  else if p.scanline < 261 then { p with scanline := p.scanline + 1, dot := 0 }
  else { p with scanline := 0, dot := if !p.oddFrame && p.rendering then 1 else 0, oddFrame := !p.oddFrame }

/-- Dot 1 of scanline 241, where the vblank flag is set (rule R353). -/
def Ppu.atVblankSet (p : Ppu) : Bool := p.scanline == 241 && p.dot == 1

/-- Whether one of the three dots of the present CPU cycle is the one that sets the vblank flag (rule R353). -/
def Ppu.vblankSetThisCycle (p : Ppu) : Bool :=
  p.atVblankSet || p.nextPos.atVblankSet || p.nextPos.nextPos.atVblankSet

/-- A PPUSTATUS read: flags in bits 7 to 5, open bus in bits 4 to 0; then vblank and `w` are cleared. In the cycle whose
dots would set vblank it returns bit 7 = 0 and cancels the flag (rules R350, R351, R353). -/
def Ppu.statusRead (p : Ppu) (openBus : Byte) : Byte × Ppu :=
  let race := p.vblankSetThisCycle
  (BitVec.ofBool (p.vblank && !race) ++ BitVec.ofBool p.spriteZero ++ BitVec.ofBool p.overflow ++
      openBus.extractLsb' 0 5,
    { p with vblank := false, w := false, cancelVblank := p.cancelVblank || race })

/-- A read of PPU register `0x2000 + r`; write-only registers give `open_bus` (rule R350, decision D39). -/
def Ppu.regRead (p : Ppu) (c : Cart) (openBus : Byte) (r : Nat) : Byte × Ppu :=
  match r with
  | 2 => p.statusRead openBus
  | 4 => (p.oam.read p.oamAddr.toNat, p)
  | 7 => p.dataRead c
  | _ => (openBus, p)

/-- A byte put into OAM at OAMADDR + `i` modulo 256 (rules R350, R362). -/
def Ppu.oamPut (p : Ppu) (i : Nat) (d : Byte) : Ppu :=
  { p with oam := p.oam.write ((p.oamAddr.toNat + i) % 256) d }

/-- A write of PPUCTRL: `t[11:10] <- d[1:0]` (rule R355). -/
def Ppu.ctrlWrite (p : Ppu) (d : Byte) : Ppu :=
  { p with ctrl := d, t := (p.t &&& 0x73FF#15) ||| ((d &&& 0x03#8).setWidth 15 <<< 10) }

/-- A write of PPUSCROLL, by `w` (rule R355). -/
def Ppu.scrollWrite (p : Ppu) (d : Byte) : Ppu :=
  if p.w then
    { p with
      t := (p.t &&& 0x0C1F#15) ||| ((d &&& 0x07#8).setWidth 15 <<< 12) ||| ((d >>> 3).setWidth 15 <<< 5)
      w := false }
  else
    { p with t := (p.t &&& 0x7FE0#15) ||| (d >>> 3).setWidth 15, fineX := d.setWidth 3, w := true }

/-- A write of PPUADDR, by `w`: high 6 bits first, then the low 8 bits and `v <- t` (rule R355). -/
def Ppu.addrWrite (p : Ppu) (d : Byte) : Ppu :=
  if p.w then
    let t := (p.t &&& 0x7F00#15) ||| d.setWidth 15
    { p with t := t, v := t, w := false }
  else
    { p with t := (p.t &&& 0x00FF#15) ||| ((d &&& 0x3F#8).setWidth 15 <<< 8), w := true }

/-- What a PPUDATA write stores where `v` points in the PPU's own memories (rule R356). -/
def Ppu.dataWrite (p : Ppu) (c : Cart) (d : Byte) : Ppu :=
  let a := p.busAddr
  (if a < 0x2000 then p
   else if a < 0x3F00 then { p with vram := p.vram.write (vramOffset c.mirror a) d }
   else { p with palette := p.palette.write (paletteIndex a) d }).advanceV

/-- A write of PPU register `0x2000 + r` (Table 60-C): the PPU's side. A write of PPUSTATUS clears `w` (rule R351). -/
def Ppu.regWrite (p : Ppu) (c : Cart) (r : Nat) (d : Byte) : Ppu :=
  match r with
  | 0 => p.ctrlWrite d
  | 1 => { p with mask := d }
  | 2 => { p with w := false }
  | 3 => { p with oamAddr := d }
  | 4 => { p.oamPut 0 d with oamAddr := p.oamAddr + 1#8 }
  | 5 => p.scrollWrite d
  | 6 => p.addrWrite d
  | _ => p.dataWrite c d

/-- A write of PPU register `0x2000 + r`: the cartridge's side (PPUDATA into the pattern tables). -/
def Ppu.regWriteCart (p : Ppu) (c : Cart) (r : Nat) (d : Byte) : Cart :=
  if r = 7 && p.busAddr < 0x2000 then c.ppuWrite p.busAddr d else c

/-- Scanlines on which the PPU fetches: 0 to 239 and the pre-render scanline 261 (rule R354). -/
def Ppu.fetchLine (p : Ppu) : Bool := p.scanline < 240 || p.scanline == 261

/-- Bits of `v` reloaded from `t`: the horizontal ones, bits 10 and 4:0 (rule R357; the bits are PRESUMED, log 14). -/
def Ppu.reloadHorizontal (p : Ppu) : BitVec 15 := (p.v &&& 0x7BE0#15) ||| (p.t &&& 0x041F#15)

/-- Bits of `v` reloaded from `t`: the vertical ones, bits 14:11 and 9:5 (rule R357; the bits are PRESUMED, log 14). -/
def Ppu.reloadVertical (p : Ppu) : BitVec 15 := (p.v &&& 0x041F#15) ||| (p.t &&& 0x7BE0#15)

/-- `v` after one dot: while rendering, reloaded from `t` after cycle 256 (dot 257) and at dots 280 to 304 of the
pre-render scanline, left alone at the other sprite-fetch dots, and free where background fetches may increment it
(rules R356, R357; log 14). -/
def Ppu.dotV (p : Ppu) (n : Nat) : BitVec 15 :=
  if !(p.fetchLine && p.rendering) then p.v
  else if p.dot = 257 then p.reloadHorizontal
  else if p.scanline = 261 && 280 ≤ p.dot && p.dot ≤ 304 then p.reloadVertical
  else if 257 ≤ p.dot && p.dot ≤ 320 then p.v
  else Config.renderV n

/-- PPUSTATUS bit 6 after one dot: cleared at dot 1 of scanline 261; sprite 0 may hit at dots 1 to 254 of a rendered
visible scanline (rule R357; log 13). -/
def Ppu.dotSpriteZero (p : Ppu) (n : Nat) : Bool :=
  if p.scanline = 261 && p.dot = 1 then false
  else p.spriteZero ||
    (p.rendering && p.scanline < 240 && 1 ≤ p.dot && p.dot ≤ 254 && Config.spriteZeroHit n)

/-- PPUSTATUS bit 5 after one dot: cleared with bit 6; sprite evaluation may set it at dots 65 to 256 of a rendered
visible scanline (rule R357; log 13). -/
def Ppu.dotOverflow (p : Ppu) (n : Nat) : Bool :=
  if p.scanline = 261 && p.dot = 1 then false
  else p.overflow ||
    (p.rendering && p.scanline < 240 && 65 ≤ p.dot && p.dot ≤ 256 && Config.spriteOverflow n)

/-- The vblank flag after one dot: set at dot 1 of scanline 241 unless this cycle's read cancelled it, cleared at dot 1
of scanline 261 (rule R353). -/
def Ppu.dotVblank (p : Ppu) : Bool :=
  if p.atVblankSet then !p.cancelVblank
  else if p.scanline = 261 && p.dot = 1 then false
  else p.vblank

/-- One PPU dot; `n` numbers it for the free values. -/
def Ppu.tick (p : Ppu) (n : Nat) : Ppu :=
  { p with
    vblank := p.dotVblank
    cancelVblank := if p.atVblankSet then false else p.cancelVblank
    spriteZero := p.dotSpriteZero n
    overflow := p.dotOverflow n
    v := p.dotV n
    frameDone := p.frameDone || (p.scanline == 240 && p.dot == 340) }.nextPos

/-- The level of PPU address line A12 in the dot about to run: free while rendering, else bit 12 of `v` (log 15). -/
def Ppu.a12 (p : Ppu) (n : Nat) : Bool :=
  if p.fetchLine && p.rendering then Config.renderA12 n else p.v.getLsbD 12

/-- `NMI_LINE = vblank AND PPUCTRL[7]` (rule R353). -/
def Ppu.nmiLine (p : Ppu) : Bool := p.vblank && p.ctrl.getLsbD 7

end Sys2Proof.Machine
end

