-- ==== Sys2Proof/Machine/Ops.lean ====
section
/-! DEFINITION. The named operations every sequence is made of: the bus (rules R62 to R65), the end of a cycle (R322),
fetch, push and pull (R11, R12, R131), interrupt entry and return (R268, R269, R330), reset (R400), stalls (R321). -/

namespace Sys2Proof.Machine

/-! ## Register writes -/

def State.setA (s : State) (v : Byte) : State := { s with a := v }
def State.setX (s : State) (v : Byte) : State := { s with x := v }
def State.setY (s : State) (v : Byte) : State := { s with y := v }
def State.setS (s : State) (v : Byte) : State := { s with s := v }
def State.setPc (s : State) (v : Word) : State := { s with pc := v }
def State.setP (s : State) (v : Flags) : State := { s with p := v }

/-- `SetNZ(v)` on the machine's flags (rule R13). -/
def State.setNZ (s : State) (v : Byte) : State := s.setP (s.p.setNZ v)

/-! ## The bus -/

/-- What the device decoded at `a` does on a read, before the latch is updated: Table 20-A, read column (rule R65). -/
def deviceRead (a : Nat) (s : State) : Byte × State :=
  if a < 0x2000 then (s.ram.read (a % 0x800), s)
  else if a < 0x4000 then
    let r := s.ppu.regRead s.cart s.openBus (a % 8)
    (r.1, { s with ppu := r.2 })
  else if a = 0x4015 then
    let r := s.apu.statusRead s.openBus
    (r.1, { s with apu := r.2 })
  else if a = 0x4016 then
    let r := s.pads.read1 s.openBus
    (r.1, { s with pads := r.2 })
  else if a = 0x4017 then
    let r := s.pads.read2 s.openBus
    (r.1, { s with pads := r.2 })
  else if a < 0x4020 then (s.openBus, s)
  else ((s.cart.cpuRead? a).getD s.openBus, s)

/-- `BusRead(addr)`: the driven byte, or `open_bus`; the latch takes the result (rule R62). -/
def busRead (a : Word) (s : State) : Byte × State :=
  let r := deviceRead a.toNat s
  (r.1, { r.2 with openBus := r.1 })

/-- A write of 0x4014 stamped w starts an OAM DMA of `513 + (w mod 2)` stall cycles (rule R362). -/
def startOamDma (page : Byte) (s : State) : State :=
  let odd := s.cycles.toNat % 2
  { s with stall := s.stall + 513 + odd, dma := s.dma ++ [.oam page (1 + odd) 0 0#8] }

/-- What the device decoded at `a` does with a written byte: Table 20-A, write column (rules R64, R65). -/
def deviceWrite (a : Nat) (d : Byte) (s : State) : State :=
  if a < 0x2000 then { s with ram := s.ram.write (a % 0x800) d }
  else if a < 0x4000 then
    { s with ppu := s.ppu.regWrite s.cart (a % 8) d, cart := s.ppu.regWriteCart s.cart (a % 8) d }
  else if a < 0x4014 then { s with apu := s.apu.channelWrite a d }
  else if a = 0x4014 then startOamDma d s
  else if a = 0x4015 then { s with apu := s.apu.enableWrite d }
  else if a = 0x4016 then { s with pads := s.pads.strobeWrite d }
  else if a = 0x4017 then { s with apu := s.apu.frameWrite d }
  else if a < 0x4020 then s
  else { s with cart := s.cart.cpuWrite a d s.cycles }

/-- A bus write: the latch takes the byte and the device decoded at `a` gets it, stamped `cycles` (rule R64). -/
def busWrite (a : Word) (d : Byte) (s : State) : State :=
  { deviceWrite a.toNat d s with openBus := d }

/-! ## The end of a cycle -/

/-- One PPU dot: the mapper samples A12, then the dot runs (rules R364, R376). -/
def runDot (n : Nat) (q : Ppu × Mapper) : Ppu × Mapper := (q.1.tick n, q.2.sampleA12 (q.1.a12 n))

/-- The three dots of a CPU cycle; `n` numbers the cycle for the free values. -/
def runDots (n : Nat) (q : Ppu × Mapper) : Ppu × Mapper := runDot (3 * n + 2) (runDot (3 * n + 1) (runDot (3 * n) q))

/-- `EndCycle()`: the counter, then 3 dots and 1 APU cycle, a DMC request if one falls here, then the samples of the NMI
and IRQ lines (rules R322, R364, R366). -/
def endCycle (s : State) : State :=
  let n := s.free
  let d := runDots n (s.ppu, s.cart.mapper)
  let u := s.apu.tick n
  let fetch := s.apu.dmcRequests n
  { s with
    cycles := s.cycles + 1#64
    ppu := d.1
    cart := { s.cart with mapper := d.2 }
    apu := u
    stall := if fetch then s.stall + Config.dmcStallCycles else s.stall
    dma := if fetch then s.dma ++ [.dmc (Config.dmcFetchAddr n) 0] else s.dma
    nmiPending := s.nmiPending || (d.1.nmiLine && !s.nmiPrev)
    nmiPrev := d.1.nmiLine
    irqSample := u.irq || d.2.irq
    free := n + 1 }

/-! ## Bus cycles -/

/-- `MemRead(addr, 1)`: a bus read and the end of its cycle (rule R11). -/
def memRead (a : Word) (s : State) : Byte × State :=
  let r := busRead a s
  (r.1, endCycle r.2)

/-- `MemWrite(addr, 1, v)` (rule R11). -/
def memWrite (a : Word) (d : Byte) (s : State) : State := endCycle (busWrite a d s)

/-- `DummyRead(addr)`: a read whose value is discarded (rules R11, R81). -/
def dummyRead (a : Word) (s : State) : State := (memRead a s).2

/-- `Fetch()`: read at PC, then `PC <- PC + 1` modulo 2^16 (rules R25, R131). -/
def fetch (s : State) : Byte × State :=
  let r := memRead s.pc s
  (r.1, r.2.setPc (s.pc + 1#16))

/-- `Push(v)`: write at `0x0100 | S`, then `S <- S - 1` modulo 2^8 (rule R12). -/
def push (d : Byte) (s : State) : State := (memWrite (stackAddr s.s) d s).setS (s.s - 1#8)

/-- `Pull()`: `S <- S + 1` modulo 2^8, then read at `0x0100 | S` (rule R12). -/
def pull (s : State) : Byte × State :=
  let s1 := s.setS (s.s + 1#8)
  memRead (stackAddr s1.s) s1

/-! ## Interrupt entry and return -/

/-- The interrupt vectors' low-byte addresses (rule R74). -/
def nmiVector : Word := 0xFFFA#16
def resetVector : Word := 0xFFFC#16
def irqVector : Word := 0xFFFE#16

/-- Read a vector, low byte first, into PC: the last two cycles of every sequence (rules R74, R330). -/
def loadVector (vec : Word) (s : State) : State :=
  let l := memRead vec s
  let h := memRead (vec + 1#16) l.2
  h.2.setPc (mkWord h.1 l.1)

/-- The vector a BRK or IRQ sequence takes after its cycle 4: the NMI vector if an NMI is pending (rule R332). -/
def hijackVector (s : State) : Word := if s.nmiPending then nmiVector else irqVector

/-- Push PC, high byte first: cycles 3 and 4 of every interrupt entry (rules R268, R330). -/
def pushPc (s : State) : State := push (lo s.pc) (push (hi s.pc) s)

/-- Cycles 5 to 7 of an entry: push `Pack(b)`, then `I <- 1`, then take the vector (rules R268, R330). -/
def enterVector (b : Bool) (vec : Word) (s : State) : State :=
  let s1 := push (s.p.pack b) s
  loadVector vec (s1.setP { s1.p with i := true })

/-- Cycles 3 to 7 of a BRK or IRQ entry, with the vector choice after cycle 4; a hijack consumes the NMI (rules R268,
R330, R332). The one entry operation BRK and IRQ share; `b` is the B bit of the pushed image. -/
def enterInterrupt (b : Bool) (s : State) : State :=
  let s1 := pushPc s
  enterVector b (hijackVector s1) { s1 with nmiPending := false }

/-- `InterruptSequence(IRQ)` (rule R330). -/
def irqSequence (s : State) : State :=
  enterInterrupt false (dummyRead s.pc (dummyRead s.pc s))

/-- `InterruptSequence(NMI)`: the latch is cleared at the start, and the NMI vector is taken whatever happens (rules
R330, R332). -/
def nmiSequence (s : State) : State :=
  let s1 := { s with nmiPending := false }
  enterVector false nmiVector (pushPc (dummyRead s1.pc (dummyRead s1.pc s1)))

/-- Pull PC, low byte first (rules R252, R269). -/
def pullWord (s : State) : Word × State :=
  let l := pull s
  let h := pull l.2
  (mkWord h.1 l.1, h.2)

/-- Return from interrupt after the opcode fetch: cycles 2 to 6 of RTI (rules R269, R334). -/
def returnFromInterrupt (s : State) : State :=
  let s1 := dummyRead s.pc s
  let s2 := dummyRead (stackAddr s1.s) s1
  let f := pull s2
  let w := pullWord (f.2.setP (Flags.unpack f.1))
  w.2.setPc w.1

/-! ## Reset -/

/-- One stack read of the reset sequence, with post-decrement (rule R400). -/
def resetStackRead (s : State) : State := (dummyRead (stackAddr s.s) s).setS (s.s - 1#8)

/-- DEVICE_RESET other than the default on a mapper: its registers only, since a cartridge is immutable after load (rules
R371, R402; log 6). -/
def Mapper.warmReset (n : Nat) : Mapper → Mapper
  | .nrom => .nrom
  | .mmc1 m => .mmc1 (Config.resetMmc1 n m)
  | .uxrom bank => .uxrom (Config.resetUxrom n bank)
  | .cnrom bank => .cnrom (Config.resetCnrom n bank)
  | .mmc3 m => .mmc3 (Config.resetMmc3 n m)

/-- DEVICE_RESET applied to the devices by a warm reset (rule R402): nothing by default. The reset of power-on finds them
at their power-on values and leaves them so (rule R401; log 6). -/
def resetDevices (s : State) : State :=
  match s.coldReset, s.params.deviceReset with
  | false, .other =>
    { s with
      ppu := Config.resetPpu s.free s.ppu
      apu := Config.resetApu s.free s.apu
      cart := { s.cart with mapper := s.cart.mapper.warmReset s.free } }
  | _, _ => s

/-- Owed stall cycles are dropped and the transfers they belong to abandoned (rule R400, decision D16). -/
def State.dropStall (s : State) : State := { s with stall := 0, dma := [] }

/-- The assignments at the start of the reset sequence (rule R400), which also leave the stuck state (rule R402), then the
devices. DESIGN CHOICE (log 6): DEVICE_RESET acts here, before the first dummy read. -/
def resetStart (s : State) : State :=
  { resetDevices { s.dropStall with resetReq := false, nmiPending := false, stuck := none } with coldReset := false }

/-- `ResetSequence()` (rule R400), after which `stall` is 0 (rule R42, Table 10-B). DEDUCED (log 24): so a DMC request in one
of the 7 cycles (rule R366) is abandoned with its stall cycles when the sequence ends. -/
def resetSequence (s : State) : State :=
  let s1 := resetStart s
  let s2 := (dummyRead s1.pc (dummyRead s1.pc s1)).setS 0x00#8
  let s3 := resetStackRead (resetStackRead (resetStackRead s2))
  (loadVector resetVector (s3.setP { s3.p with i := true })).dropStall

/-! ## Stall cycles and DMA -/

/-- The stall cycles a DMA job takes in all (rules R362, R366). -/
def DmaJob.length : DmaJob → Nat
  | .oam _ align _ _ => align + 512
  | .dmc _ _ => Config.dmcStallCycles

/-- The stall cycles a DMA job has taken. -/
def DmaJob.pos : DmaJob → Nat
  | .oam _ _ pos _ => pos
  | .dmc _ pos => pos

/-- The stall cycles a DMA job still owes. -/
def DmaJob.owed (j : DmaJob) : Nat := j.length - j.pos

/-- One stall cycle of an OAM DMA: nothing while aligning, then byte i read in cycle `a + 2i` and written to
`OAM[(OAMADDR + i) mod 256]` in the next (rule R362). -/
def oamDmaCycle (page : Byte) (align pos : Nat) (latch : Byte) (s : State) : DmaJob × State :=
  if pos < align then (.oam page align (pos + 1) latch, s)
  else if (pos - align) % 2 = 0 then
    let r := busRead (mkWord page (BitVec.ofNat 8 ((pos - align) / 2))) s
    (.oam page align (pos + 1) r.1, r.2)
  else
    (.oam page align (pos + 1) latch, { s with ppu := s.ppu.oamPut ((pos - align) / 2) latch })

/-- One stall cycle of a DMC fetch: the one bus read is in the last of its cycles (rule R366). -/
def dmcDmaCycle (addr : Word) (pos : Nat) (s : State) : DmaJob × State :=
  if pos + 1 < Config.dmcStallCycles then (.dmc addr (pos + 1), s)
  else
    let r := busRead addr s
    (.dmc addr (pos + 1), { r.2 with apu := { r.2.apu with dmcBuffer := r.1 } })

/-- One stall cycle of a DMA job. -/
def DmaJob.cycle (j : DmaJob) (s : State) : DmaJob × State :=
  match j with
  | .oam page align pos latch => oamDmaCycle page align pos latch s
  | .dmc addr pos => dmcDmaCycle addr pos s

/-- The DMA work of one stall cycle: the first job owed, dropped when its last cycle is spent (rules R321, R362). -/
def dmaCycle (s : State) : State :=
  match s.dma with
  | [] => s
  | job :: rest =>
    let r := job.cycle s
    { r.2 with dma := if r.1.owed = 0 then rest else r.1 :: rest }

/-- `StallCycle()`: one owed cycle less, no CPU access, the DMA engine's work, and the end of the cycle (rule R321). -/
def stallCycle (s : State) : State := endCycle (dmaCycle { s with stall := s.stall - 1 })

end Sys2Proof.Machine
end

