-- ==== Sys2Proof/Machine/Operands.lean ====
section
/-! DEFINITION. The addressing modes and the access classes (40_addressing_modes.md): effective addresses with their
address-phase cycles, and the read, write, read-modify-write and nop-write operand accesses of Table 40-A. Operand bytes
have been fetched already (Machine/Fetch.lean). -/

namespace Sys2Proof.Machine

/-- A memory operand, by addressing mode, with the operand bytes assembled as Table 30-A says. -/
inductive Operand where
  | zp (a : Byte)
  | zpx (a : Byte)
  | zpy (a : Byte)
  | abs (w : Word)
  | absx (w : Word)
  | absy (w : Word)
  | izx (p : Byte)
  | izy (p : Byte)
  deriving DecidableEq, Repr

/-- What a read-class instruction reads: an immediate byte or a memory operand. -/
inductive Source where
  | imm (m : Byte)
  | mem (o : Operand)
  deriving DecidableEq, Repr

/-- What an address phase yields (rules R134 to R140): the effective address, the unfixed address U, whether the low-byte
sum carried, and whether the mode is one of `absx`, `absy`, `izy`. -/
structure EffAddr where
  ea      : Word
  u       : Word
  cross   : Bool
  indexed : Bool
  deriving DecidableEq, Repr

/-- A mode without an unfixed address. -/
def EffAddr.direct (ea : Word) : EffAddr := ⟨ea, ea, false, false⟩

/-- `base + zext_16(r)` with U and `cross` (rules R138, R140). -/
def EffAddr.indexBy (base : Word) (r : Byte) : EffAddr :=
  ⟨base + zext r, mkWord (hi base) (lo base + r), decide (0xFF < (lo base).toNat + r.toNat), true⟩

/-- A 16-bit pointer read from page 0x00, wrapping within it (rules R139, R140). -/
def zeroPagePointer (q : Byte) (s : State) : Word × State :=
  let l := memRead (zext q) s
  let h := memRead (zext (q + 1#8)) l.2
  (mkWord h.1 l.1, h.2)

/-- The address phase of a mode, after its operand bytes are fetched (rules R134 to R140). -/
def addressPhase (o : Operand) (s : State) : EffAddr × State :=
  match o with
  | .zp a => (.direct (zext a), s)
  | .zpx a => (.direct (zext (a + s.x)), dummyRead (zext a) s)
  | .zpy a => (.direct (zext (a + s.y)), dummyRead (zext a) s)
  | .abs w => (.direct w, s)
  | .absx w => (.indexBy w s.x, s)
  | .absy w => (.indexBy w s.y, s)
  | .izx p =>
    let r := zeroPagePointer (p + s.x) (dummyRead (zext p) s)
    (.direct r.1, r.2)
  | .izy p =>
    let r := zeroPagePointer p s
    (.indexBy r.1 s.y, r.2)

/-- `ReadOperand()` (rules R133, R150): in `absx`, `absy`, `izy` the first read is at U, and only a crossing reads EA. -/
def readOperand (src : Source) (s : State) : Byte × State :=
  match src with
  | .imm m => (m, s)
  | .mem o =>
    let e := addressPhase o s
    let r := memRead e.1.u e.2
    if e.1.cross then memRead e.1.ea r.2 else r

/-- A read-class instruction: `M <- ReadOperand()`, then what it does with M. -/
def readThen (src : Source) (effect : Byte → State → State) (s : State) : State :=
  let r := readOperand src s
  effect r.1 r.2

/-- The address phase of a write or RMW instruction: `absx`, `absy`, `izy` always read U (rule R151). -/
def writeAddress (o : Operand) (s : State) : Word × State :=
  let e := addressPhase o s
  (e.1.ea, if e.1.indexed then dummyRead e.1.u e.2 else e.2)

/-- `WriteOperand(v)` (rule R151). -/
def writeOperand (o : Operand) (v : Byte) (s : State) : State :=
  let w := writeAddress o s
  memWrite w.1 v w.2

/-- `ModifyOperand(f)`: read, write the old byte back, write the new one; `f` may change registers and flags (R151). -/
def modifyOperand (o : Operand) (f : Byte → State → Byte × State) (s : State) : State :=
  let w := writeAddress o s
  let r := memRead w.1 w.2
  let q := f r.1 (memWrite w.1 r.1 r.2)
  memWrite w.1 q.1 q.2

/-- The nop-write class: the mode's write sequence with the final write replaced by a read (rule R296). -/
def nopWriteOperand (o : Operand) (s : State) : State :=
  let w := writeAddress o s
  dummyRead w.1 w.2

/-- The implied class: cycle 2 is a dummy read at PC (rule R132). -/
def implied (s : State) : State := dummyRead s.pc s

/-- A two-cycle implied instruction: the dummy read, then its effect (rule R132). -/
def impliedThen (effect : State → State) (s : State) : State := effect (implied s)

/-- `ModifyOperand(f)` in mode `acc` (rule R132). -/
def modifyAcc (f : Byte → State → Byte × State) (s : State) : State :=
  let s1 := implied s
  let q := f s1.a s1
  q.2.setA q.1

/-- A policy opcode (rule R296): under `nop` the given NOP runs; under `refuse` the core is stuck on the opcode, whose
fetch is all that has happened (log 5). -/
def underPolicy (policy : OpcodePolicy) (op : Byte) (run : State → State) (s : State) : Result :=
  match policy with
  | .nop => .next (run s)
  | .refuse => .next { s with stuck := some op }

end Sys2Proof.Machine
end

