-- ==== Sys2Proof/Machine/Arithmetic.lean ====
section
/-! DEFINITION. Arithmetic, logic, compare, increment and decrement (43_arithmetic_logic.md, rules R200 to R217). -/

namespace Sys2Proof.Machine

/-! ## Shared operations -/

/-- `A <- Add8(A, b, C)` on the machine (rule R200). -/
def State.addA (b : Byte) (s : State) : State :=
  let q := add8 s.a b s.p.c
  (s.setA q.r).setP (s.p.afterAdd q)

/-- `Compare(r, m)` on the machine (rule R206). -/
def State.compare (r m : Byte) (s : State) : State := s.setP (s.p.compare r m)

/-- ADC (rule R201): `A <- Add8(A, M, C)`; D is not read. -/
def opAdc (src : Source) (s : State) : State := readThen src (fun m t => t.addA m) s

/-- SBC (rule R202): `A <- Add8(A, ~M & 0xFF, C)`. -/
def opSbc (src : Source) (s : State) : State := readThen src (fun m t => t.addA (~~~m)) s

/-- AND (rule R203). -/
def opAnd (src : Source) (s : State) : State := readThen src (fun m t => (t.setA (t.a &&& m)).setNZ (t.a &&& m)) s

/-- ORA (rule R204). -/
def opOra (src : Source) (s : State) : State := readThen src (fun m t => (t.setA (t.a ||| m)).setNZ (t.a ||| m)) s

/-- EOR (rule R205). -/
def opEor (src : Source) (s : State) : State := readThen src (fun m t => (t.setA (t.a ^^^ m)).setNZ (t.a ^^^ m)) s

/-- CMP (rule R207). -/
def opCmp (src : Source) (s : State) : State := readThen src (fun m t => t.compare t.a m) s

/-- CPX (rule R208). -/
def opCpx (src : Source) (s : State) : State := readThen src (fun m t => t.compare t.x m) s

/-- CPY (rule R209). -/
def opCpy (src : Source) (s : State) : State := readThen src (fun m t => t.compare t.y m) s

/-- BIT's flags (rule R210): Z from `A & M`, N and V from bits 7 and 6 of M. -/
def Flags.bitTest (p : Flags) (a m : Byte) : Flags :=
  { p with z := (a &&& m) == 0#8, n := m.getLsbD 7, v := m.getLsbD 6 }

/-- BIT (rule R210). -/
def opBit (src : Source) (s : State) : State := readThen src (fun m t => t.setP (t.p.bitTest t.a m)) s

/-- INC (rule R211). -/
def opInc (o : Operand) (s : State) : State := modifyOperand o (fun m t => (m + 1#8, t.setNZ (m + 1#8))) s

/-- DEC (rule R212). -/
def opDec (o : Operand) (s : State) : State := modifyOperand o (fun m t => (m - 1#8, t.setNZ (m - 1#8))) s

/-- INX (rule R213). -/
def opInx (s : State) : State := impliedThen (fun t => (t.setX (t.x + 1#8)).setNZ (t.x + 1#8)) s

/-- INY (rule R214). -/
def opIny (s : State) : State := impliedThen (fun t => (t.setY (t.y + 1#8)).setNZ (t.y + 1#8)) s

/-- DEX (rule R215). -/
def opDex (s : State) : State := impliedThen (fun t => (t.setX (t.x - 1#8)).setNZ (t.x - 1#8)) s

/-- DEY (rule R216). -/
def opDey (s : State) : State := impliedThen (fun t => (t.setY (t.y - 1#8)).setNZ (t.y - 1#8)) s

/-! ## The instructions -/

/-- 0x61 ADC izx (rule R201). -/
def execAdcIzx (q : Byte) (s : State) : Result := .next (opAdc (.mem (.izx q)) s)

/-- 0x65 ADC zp (rule R201). -/
def execAdcZp (a : Byte) (s : State) : Result := .next (opAdc (.mem (.zp a)) s)

/-- 0x69 ADC imm (rule R201). -/
def execAdcImm (m : Byte) (s : State) : Result := .next (opAdc (.imm m) s)

/-- 0x6D ADC abs (rule R201). -/
def execAdcAbs (w : Word) (s : State) : Result := .next (opAdc (.mem (.abs w)) s)

/-- 0x71 ADC izy (rule R201). -/
def execAdcIzy (q : Byte) (s : State) : Result := .next (opAdc (.mem (.izy q)) s)

/-- 0x75 ADC zpx (rule R201). -/
def execAdcZpx (a : Byte) (s : State) : Result := .next (opAdc (.mem (.zpx a)) s)

/-- 0x79 ADC absy (rule R201). -/
def execAdcAbsy (w : Word) (s : State) : Result := .next (opAdc (.mem (.absy w)) s)

/-- 0x7D ADC absx (rule R201). -/
def execAdcAbsx (w : Word) (s : State) : Result := .next (opAdc (.mem (.absx w)) s)

/-- 0xE1 SBC izx (rule R202). -/
def execSbcIzx (q : Byte) (s : State) : Result := .next (opSbc (.mem (.izx q)) s)

/-- 0xE5 SBC zp (rule R202). -/
def execSbcZp (a : Byte) (s : State) : Result := .next (opSbc (.mem (.zp a)) s)

/-- 0xE9 SBC imm (rule R202). -/
def execSbcImm (m : Byte) (s : State) : Result := .next (opSbc (.imm m) s)

/-- 0xED SBC abs (rule R202). -/
def execSbcAbs (w : Word) (s : State) : Result := .next (opSbc (.mem (.abs w)) s)

/-- 0xF1 SBC izy (rule R202). -/
def execSbcIzy (q : Byte) (s : State) : Result := .next (opSbc (.mem (.izy q)) s)

/-- 0xF5 SBC zpx (rule R202). -/
def execSbcZpx (a : Byte) (s : State) : Result := .next (opSbc (.mem (.zpx a)) s)

/-- 0xF9 SBC absy (rule R202). -/
def execSbcAbsy (w : Word) (s : State) : Result := .next (opSbc (.mem (.absy w)) s)

/-- 0xFD SBC absx (rule R202). -/
def execSbcAbsx (w : Word) (s : State) : Result := .next (opSbc (.mem (.absx w)) s)

/-- 0x21 AND izx (rule R203). -/
def execAndIzx (q : Byte) (s : State) : Result := .next (opAnd (.mem (.izx q)) s)

/-- 0x25 AND zp (rule R203). -/
def execAndZp (a : Byte) (s : State) : Result := .next (opAnd (.mem (.zp a)) s)

/-- 0x29 AND imm (rule R203). -/
def execAndImm (m : Byte) (s : State) : Result := .next (opAnd (.imm m) s)

/-- 0x2D AND abs (rule R203). -/
def execAndAbs (w : Word) (s : State) : Result := .next (opAnd (.mem (.abs w)) s)

/-- 0x31 AND izy (rule R203). -/
def execAndIzy (q : Byte) (s : State) : Result := .next (opAnd (.mem (.izy q)) s)

/-- 0x35 AND zpx (rule R203). -/
def execAndZpx (a : Byte) (s : State) : Result := .next (opAnd (.mem (.zpx a)) s)

/-- 0x39 AND absy (rule R203). -/
def execAndAbsy (w : Word) (s : State) : Result := .next (opAnd (.mem (.absy w)) s)

/-- 0x3D AND absx (rule R203). -/
def execAndAbsx (w : Word) (s : State) : Result := .next (opAnd (.mem (.absx w)) s)

/-- 0x01 ORA izx (rule R204). -/
def execOraIzx (q : Byte) (s : State) : Result := .next (opOra (.mem (.izx q)) s)

/-- 0x05 ORA zp (rule R204). -/
def execOraZp (a : Byte) (s : State) : Result := .next (opOra (.mem (.zp a)) s)

/-- 0x09 ORA imm (rule R204). -/
def execOraImm (m : Byte) (s : State) : Result := .next (opOra (.imm m) s)

/-- 0x0D ORA abs (rule R204). -/
def execOraAbs (w : Word) (s : State) : Result := .next (opOra (.mem (.abs w)) s)

/-- 0x11 ORA izy (rule R204). -/
def execOraIzy (q : Byte) (s : State) : Result := .next (opOra (.mem (.izy q)) s)

/-- 0x15 ORA zpx (rule R204). -/
def execOraZpx (a : Byte) (s : State) : Result := .next (opOra (.mem (.zpx a)) s)

/-- 0x19 ORA absy (rule R204). -/
def execOraAbsy (w : Word) (s : State) : Result := .next (opOra (.mem (.absy w)) s)

/-- 0x1D ORA absx (rule R204). -/
def execOraAbsx (w : Word) (s : State) : Result := .next (opOra (.mem (.absx w)) s)

/-- 0x41 EOR izx (rule R205). -/
def execEorIzx (q : Byte) (s : State) : Result := .next (opEor (.mem (.izx q)) s)

/-- 0x45 EOR zp (rule R205). -/
def execEorZp (a : Byte) (s : State) : Result := .next (opEor (.mem (.zp a)) s)

/-- 0x49 EOR imm (rule R205). -/
def execEorImm (m : Byte) (s : State) : Result := .next (opEor (.imm m) s)

/-- 0x4D EOR abs (rule R205). -/
def execEorAbs (w : Word) (s : State) : Result := .next (opEor (.mem (.abs w)) s)

/-- 0x51 EOR izy (rule R205). -/
def execEorIzy (q : Byte) (s : State) : Result := .next (opEor (.mem (.izy q)) s)

/-- 0x55 EOR zpx (rule R205). -/
def execEorZpx (a : Byte) (s : State) : Result := .next (opEor (.mem (.zpx a)) s)

/-- 0x59 EOR absy (rule R205). -/
def execEorAbsy (w : Word) (s : State) : Result := .next (opEor (.mem (.absy w)) s)

/-- 0x5D EOR absx (rule R205). -/
def execEorAbsx (w : Word) (s : State) : Result := .next (opEor (.mem (.absx w)) s)

/-- 0xC1 CMP izx (rule R207). -/
def execCmpIzx (q : Byte) (s : State) : Result := .next (opCmp (.mem (.izx q)) s)

/-- 0xC5 CMP zp (rule R207). -/
def execCmpZp (a : Byte) (s : State) : Result := .next (opCmp (.mem (.zp a)) s)

/-- 0xC9 CMP imm (rule R207). -/
def execCmpImm (m : Byte) (s : State) : Result := .next (opCmp (.imm m) s)

/-- 0xCD CMP abs (rule R207). -/
def execCmpAbs (w : Word) (s : State) : Result := .next (opCmp (.mem (.abs w)) s)

/-- 0xD1 CMP izy (rule R207). -/
def execCmpIzy (q : Byte) (s : State) : Result := .next (opCmp (.mem (.izy q)) s)

/-- 0xD5 CMP zpx (rule R207). -/
def execCmpZpx (a : Byte) (s : State) : Result := .next (opCmp (.mem (.zpx a)) s)

/-- 0xD9 CMP absy (rule R207). -/
def execCmpAbsy (w : Word) (s : State) : Result := .next (opCmp (.mem (.absy w)) s)

/-- 0xDD CMP absx (rule R207). -/
def execCmpAbsx (w : Word) (s : State) : Result := .next (opCmp (.mem (.absx w)) s)

/-- 0xE0 CPX imm (rule R208). -/
def execCpxImm (m : Byte) (s : State) : Result := .next (opCpx (.imm m) s)

/-- 0xE4 CPX zp (rule R208). -/
def execCpxZp (a : Byte) (s : State) : Result := .next (opCpx (.mem (.zp a)) s)

/-- 0xEC CPX abs (rule R208). -/
def execCpxAbs (w : Word) (s : State) : Result := .next (opCpx (.mem (.abs w)) s)

/-- 0xC0 CPY imm (rule R209). -/
def execCpyImm (m : Byte) (s : State) : Result := .next (opCpy (.imm m) s)

/-- 0xC4 CPY zp (rule R209). -/
def execCpyZp (a : Byte) (s : State) : Result := .next (opCpy (.mem (.zp a)) s)

/-- 0xCC CPY abs (rule R209). -/
def execCpyAbs (w : Word) (s : State) : Result := .next (opCpy (.mem (.abs w)) s)

/-- 0x24 BIT zp (rule R210). -/
def execBitZp (a : Byte) (s : State) : Result := .next (opBit (.mem (.zp a)) s)

/-- 0x2C BIT abs (rule R210). -/
def execBitAbs (w : Word) (s : State) : Result := .next (opBit (.mem (.abs w)) s)

/-- 0xE6 INC zp (rule R211). -/
def execIncZp (a : Byte) (s : State) : Result := .next (opInc (.zp a) s)

/-- 0xEE INC abs (rule R211). -/
def execIncAbs (w : Word) (s : State) : Result := .next (opInc (.abs w) s)

/-- 0xF6 INC zpx (rule R211). -/
def execIncZpx (a : Byte) (s : State) : Result := .next (opInc (.zpx a) s)

/-- 0xFE INC absx (rule R211). -/
def execIncAbsx (w : Word) (s : State) : Result := .next (opInc (.absx w) s)

/-- 0xC6 DEC zp (rule R212). -/
def execDecZp (a : Byte) (s : State) : Result := .next (opDec (.zp a) s)

/-- 0xCE DEC abs (rule R212). -/
def execDecAbs (w : Word) (s : State) : Result := .next (opDec (.abs w) s)

/-- 0xD6 DEC zpx (rule R212). -/
def execDecZpx (a : Byte) (s : State) : Result := .next (opDec (.zpx a) s)

/-- 0xDE DEC absx (rule R212). -/
def execDecAbsx (w : Word) (s : State) : Result := .next (opDec (.absx w) s)

/-- 0xE8 INX imp (rule R213). -/
def execInx (s : State) : Result := .next (opInx s)

/-- 0xC8 INY imp (rule R214). -/
def execIny (s : State) : Result := .next (opIny s)

/-- 0xCA DEX imp (rule R215). -/
def execDex (s : State) : Result := .next (opDex s)

/-- 0x88 DEY imp (rule R216). -/
def execDey (s : State) : Result := .next (opDey s)

end Sys2Proof.Machine
end

