-- ==== Sys2Proof/Machine/Control.lean ====
section
/-! DEFINITION. Jumps, branches, subroutine call and return (45_control_transfer.md, rules R240 to R253). At entry PC is
past the fetched bytes: past the whole instruction, and for JSR at its third byte (Machine/Fetch.lean). -/

namespace Sys2Proof.Machine

/-! ## Shared operations -/

/-- JMP absolute (rule R240): both operand bytes are fetched, `PC <- h:l`. -/
def jmpAbs (w : Word) (s : State) : State := s.setPc w

/-- Where JMP indirect finds the high byte: in the pointer's own page (rule R241). -/
def pointerHigh (ptr : Word) : Word := mkWord (hi ptr) (lo ptr + 1#8)

/-- JMP indirect (rules R240, R241). -/
def jmpInd (ptr : Word) (s : State) : State :=
  let l := memRead ptr s
  let h := memRead (pointerHigh ptr) l.2
  h.2.setPc (mkWord h.1 l.1)

/-- The target of a branch whose next instruction is at `next` (rule R242). -/
def branchTarget (next : Word) (off : Byte) : Word := next + sext off

/-- The branch sequence from cycle 3 on; PC is `PC_next` (rule R242). -/
def branch (cond : Bool) (off : Byte) (s : State) : State :=
  if cond then
    let target := branchTarget s.pc off
    let s1 := dummyRead s.pc s
    let s2 := if hi target = hi s.pc then s1 else dummyRead (mkWord (hi s.pc) (lo target)) s1
    s2.setPc target
  else s

/-- JSR from cycle 3 on (rule R251): the return address is PC, the address of the third byte, which is read in cycle 6,
after the pushes. -/
def opJsr (target : Word) (s : State) : State :=
  let s1 := pushPc (dummyRead (stackAddr s.s) s)
  let h := memRead s1.pc s1
  h.2.setPc (mkWord h.1 (lo target))

/-- RTS (rule R252): pull PC, a dummy read there, and add one. -/
def opRts (s : State) : State :=
  let s1 := implied s
  let w := pullWord (dummyRead (stackAddr s1.s) s1)
  (dummyRead w.1 w.2).setPc (w.1 + 1#16)

/-! ## The instructions -/

/-- 0x4C JMP abs (rule R240). -/
def execJmpAbs (w : Word) (s : State) : Result := .next (jmpAbs w s)

/-- 0x6C JMP ind (rule R240). -/
def execJmpInd (w : Word) (s : State) : Result := .next (jmpInd w s)

/-- 0x90 BCC rel (rule R243). -/
def execBcc (off : Byte) (s : State) : Result := .next (branch (!s.p.c) off s)

/-- 0xB0 BCS rel (rule R244). -/
def execBcs (off : Byte) (s : State) : Result := .next (branch s.p.c off s)

/-- 0xF0 BEQ rel (rule R245). -/
def execBeq (off : Byte) (s : State) : Result := .next (branch s.p.z off s)

/-- 0x30 BMI rel (rule R246). -/
def execBmi (off : Byte) (s : State) : Result := .next (branch s.p.n off s)

/-- 0xD0 BNE rel (rule R247). -/
def execBne (off : Byte) (s : State) : Result := .next (branch (!s.p.z) off s)

/-- 0x10 BPL rel (rule R248). -/
def execBpl (off : Byte) (s : State) : Result := .next (branch (!s.p.n) off s)

/-- 0x50 BVC rel (rule R249). -/
def execBvc (off : Byte) (s : State) : Result := .next (branch (!s.p.v) off s)

/-- 0x70 BVS rel (rule R250). -/
def execBvs (off : Byte) (s : State) : Result := .next (branch s.p.v off s)

/-- 0x20 JSR abs (rule R251). -/
def execJsr (w : Word) (s : State) : Result := .next (opJsr w s)

/-- 0x60 RTS imp (rule R252). -/
def execRts (s : State) : Result := .next (opRts s)

end Sys2Proof.Machine
end

