-- ==== Sys2Proof/Machine/LoadStore.lean ====
section
/-! DEFINITION. Loads, stores and register transfers (41_load_store_transfer.md, rules R170 to R181). -/

namespace Sys2Proof.Machine

/-! ## Shared operations -/

/-- LDA (rule R170): `M <- ReadOperand(); A <- M; SetNZ(A)`. -/
def opLda (src : Source) (s : State) : State := readThen src (fun m t => (t.setA m).setNZ m) s

/-- LDX (rule R171). -/
def opLdx (src : Source) (s : State) : State := readThen src (fun m t => (t.setX m).setNZ m) s

/-- LDY (rule R172). -/
def opLdy (src : Source) (s : State) : State := readThen src (fun m t => (t.setY m).setNZ m) s

/-- STA (rule R173): `WriteOperand(A)`. -/
def opSta (o : Operand) (s : State) : State := writeOperand o s.a s

/-- STX (rule R174). -/
def opStx (o : Operand) (s : State) : State := writeOperand o s.x s

/-- STY (rule R175). -/
def opSty (o : Operand) (s : State) : State := writeOperand o s.y s

/-- TAX (rule R176). -/
def opTax (s : State) : State := impliedThen (fun t => (t.setX t.a).setNZ t.a) s

/-- TAY (rule R177). -/
def opTay (s : State) : State := impliedThen (fun t => (t.setY t.a).setNZ t.a) s

/-- TXA (rule R178). -/
def opTxa (s : State) : State := impliedThen (fun t => (t.setA t.x).setNZ t.x) s

/-- TYA (rule R179). -/
def opTya (s : State) : State := impliedThen (fun t => (t.setA t.y).setNZ t.y) s

/-- TSX (rule R180). -/
def opTsx (s : State) : State := impliedThen (fun t => (t.setX t.s).setNZ t.s) s

/-- TXS (rule R181): the one transfer that writes no flag. -/
def opTxs (s : State) : State := impliedThen (fun t => t.setS t.x) s

/-! ## The instructions -/

/-- 0xA1 LDA izx (rule R170). -/
def execLdaIzx (q : Byte) (s : State) : Result := .next (opLda (.mem (.izx q)) s)

/-- 0xA5 LDA zp (rule R170). -/
def execLdaZp (a : Byte) (s : State) : Result := .next (opLda (.mem (.zp a)) s)

/-- 0xA9 LDA imm (rule R170). -/
def execLdaImm (m : Byte) (s : State) : Result := .next (opLda (.imm m) s)

/-- 0xAD LDA abs (rule R170). -/
def execLdaAbs (w : Word) (s : State) : Result := .next (opLda (.mem (.abs w)) s)

/-- 0xB1 LDA izy (rule R170). -/
def execLdaIzy (q : Byte) (s : State) : Result := .next (opLda (.mem (.izy q)) s)

/-- 0xB5 LDA zpx (rule R170). -/
def execLdaZpx (a : Byte) (s : State) : Result := .next (opLda (.mem (.zpx a)) s)

/-- 0xB9 LDA absy (rule R170). -/
def execLdaAbsy (w : Word) (s : State) : Result := .next (opLda (.mem (.absy w)) s)

/-- 0xBD LDA absx (rule R170). -/
def execLdaAbsx (w : Word) (s : State) : Result := .next (opLda (.mem (.absx w)) s)

/-- 0xA2 LDX imm (rule R171). -/
def execLdxImm (m : Byte) (s : State) : Result := .next (opLdx (.imm m) s)

/-- 0xA6 LDX zp (rule R171). -/
def execLdxZp (a : Byte) (s : State) : Result := .next (opLdx (.mem (.zp a)) s)

/-- 0xAE LDX abs (rule R171). -/
def execLdxAbs (w : Word) (s : State) : Result := .next (opLdx (.mem (.abs w)) s)

/-- 0xB6 LDX zpy (rule R171). -/
def execLdxZpy (a : Byte) (s : State) : Result := .next (opLdx (.mem (.zpy a)) s)

/-- 0xBE LDX absy (rule R171). -/
def execLdxAbsy (w : Word) (s : State) : Result := .next (opLdx (.mem (.absy w)) s)

/-- 0xA0 LDY imm (rule R172). -/
def execLdyImm (m : Byte) (s : State) : Result := .next (opLdy (.imm m) s)

/-- 0xA4 LDY zp (rule R172). -/
def execLdyZp (a : Byte) (s : State) : Result := .next (opLdy (.mem (.zp a)) s)

/-- 0xAC LDY abs (rule R172). -/
def execLdyAbs (w : Word) (s : State) : Result := .next (opLdy (.mem (.abs w)) s)

/-- 0xB4 LDY zpx (rule R172). -/
def execLdyZpx (a : Byte) (s : State) : Result := .next (opLdy (.mem (.zpx a)) s)

/-- 0xBC LDY absx (rule R172). -/
def execLdyAbsx (w : Word) (s : State) : Result := .next (opLdy (.mem (.absx w)) s)

/-- 0x81 STA izx (rule R173). -/
def execStaIzx (q : Byte) (s : State) : Result := .next (opSta (.izx q) s)

/-- 0x85 STA zp (rule R173). -/
def execStaZp (a : Byte) (s : State) : Result := .next (opSta (.zp a) s)

/-- 0x8D STA abs (rule R173). -/
def execStaAbs (w : Word) (s : State) : Result := .next (opSta (.abs w) s)

/-- 0x91 STA izy (rule R173). -/
def execStaIzy (q : Byte) (s : State) : Result := .next (opSta (.izy q) s)

/-- 0x95 STA zpx (rule R173). -/
def execStaZpx (a : Byte) (s : State) : Result := .next (opSta (.zpx a) s)

/-- 0x99 STA absy (rule R173). -/
def execStaAbsy (w : Word) (s : State) : Result := .next (opSta (.absy w) s)

/-- 0x9D STA absx (rule R173). -/
def execStaAbsx (w : Word) (s : State) : Result := .next (opSta (.absx w) s)

/-- 0x86 STX zp (rule R174). -/
def execStxZp (a : Byte) (s : State) : Result := .next (opStx (.zp a) s)

/-- 0x8E STX abs (rule R174). -/
def execStxAbs (w : Word) (s : State) : Result := .next (opStx (.abs w) s)

/-- 0x96 STX zpy (rule R174). -/
def execStxZpy (a : Byte) (s : State) : Result := .next (opStx (.zpy a) s)

/-- 0x84 STY zp (rule R175). -/
def execStyZp (a : Byte) (s : State) : Result := .next (opSty (.zp a) s)

/-- 0x8C STY abs (rule R175). -/
def execStyAbs (w : Word) (s : State) : Result := .next (opSty (.abs w) s)

/-- 0x94 STY zpx (rule R175). -/
def execStyZpx (a : Byte) (s : State) : Result := .next (opSty (.zpx a) s)

/-- 0xAA TAX imp (rule R176). -/
def execTax (s : State) : Result := .next (opTax s)

/-- 0xA8 TAY imp (rule R177). -/
def execTay (s : State) : Result := .next (opTay s)

/-- 0x8A TXA imp (rule R178). -/
def execTxa (s : State) : Result := .next (opTxa s)

/-- 0x98 TYA imp (rule R179). -/
def execTya (s : State) : Result := .next (opTya s)

/-- 0xBA TSX imp (rule R180). -/
def execTsx (s : State) : Result := .next (opTsx s)

/-- 0x9A TXS imp (rule R181). -/
def execTxs (s : State) : Result := .next (opTxs s)

end Sys2Proof.Machine
end

