-- ==== Sys2Proof/Machine/Shift.lean ====
section
/-! DEFINITION. Shifts and rotates (44_shift_rotate.md, rules R230 to R234). -/

namespace Sys2Proof.Machine

/-! ## Shared operations -/

/-- A shift helper as a modify function: the new byte, and C, N, Z written (rule R230). -/
def shiftWith (f : Bool → Byte → ShiftResult) (m : Byte) (s : State) : Byte × State :=
  let q := f s.p.c m
  (q.r, s.setP (s.p.afterShift q))

/-- ASL on memory and on A (rule R231). -/
def opAsl (o : Operand) (s : State) : State := modifyOperand o (shiftWith fun _ => aslByte) s
def opAslAcc (s : State) : State := modifyAcc (shiftWith fun _ => aslByte) s

/-- LSR on memory and on A (rule R232). -/
def opLsr (o : Operand) (s : State) : State := modifyOperand o (shiftWith fun _ => lsrByte) s
def opLsrAcc (s : State) : State := modifyAcc (shiftWith fun _ => lsrByte) s

/-- ROL on memory and on A (rule R233). -/
def opRol (o : Operand) (s : State) : State := modifyOperand o (shiftWith rolByte) s
def opRolAcc (s : State) : State := modifyAcc (shiftWith rolByte) s

/-- ROR on memory and on A (rule R234). -/
def opRor (o : Operand) (s : State) : State := modifyOperand o (shiftWith rorByte) s
def opRorAcc (s : State) : State := modifyAcc (shiftWith rorByte) s

/-! ## The instructions -/

/-- 0x06 ASL zp (rule R231). -/
def execAslZp (a : Byte) (s : State) : Result := .next (opAsl (.zp a) s)

/-- 0x0A ASL acc (rule R231). -/
def execAslAcc (s : State) : Result := .next (opAslAcc s)

/-- 0x0E ASL abs (rule R231). -/
def execAslAbs (w : Word) (s : State) : Result := .next (opAsl (.abs w) s)

/-- 0x16 ASL zpx (rule R231). -/
def execAslZpx (a : Byte) (s : State) : Result := .next (opAsl (.zpx a) s)

/-- 0x1E ASL absx (rule R231). -/
def execAslAbsx (w : Word) (s : State) : Result := .next (opAsl (.absx w) s)

/-- 0x46 LSR zp (rule R232). -/
def execLsrZp (a : Byte) (s : State) : Result := .next (opLsr (.zp a) s)

/-- 0x4A LSR acc (rule R232). -/
def execLsrAcc (s : State) : Result := .next (opLsrAcc s)

/-- 0x4E LSR abs (rule R232). -/
def execLsrAbs (w : Word) (s : State) : Result := .next (opLsr (.abs w) s)

/-- 0x56 LSR zpx (rule R232). -/
def execLsrZpx (a : Byte) (s : State) : Result := .next (opLsr (.zpx a) s)

/-- 0x5E LSR absx (rule R232). -/
def execLsrAbsx (w : Word) (s : State) : Result := .next (opLsr (.absx w) s)

/-- 0x26 ROL zp (rule R233). -/
def execRolZp (a : Byte) (s : State) : Result := .next (opRol (.zp a) s)

/-- 0x2A ROL acc (rule R233). -/
def execRolAcc (s : State) : Result := .next (opRolAcc s)

/-- 0x2E ROL abs (rule R233). -/
def execRolAbs (w : Word) (s : State) : Result := .next (opRol (.abs w) s)

/-- 0x36 ROL zpx (rule R233). -/
def execRolZpx (a : Byte) (s : State) : Result := .next (opRol (.zpx a) s)

/-- 0x3E ROL absx (rule R233). -/
def execRolAbsx (w : Word) (s : State) : Result := .next (opRol (.absx w) s)

/-- 0x66 ROR zp (rule R234). -/
def execRorZp (a : Byte) (s : State) : Result := .next (opRor (.zp a) s)

/-- 0x6A ROR acc (rule R234). -/
def execRorAcc (s : State) : Result := .next (opRorAcc s)

/-- 0x6E ROR abs (rule R234). -/
def execRorAbs (w : Word) (s : State) : Result := .next (opRor (.abs w) s)

/-- 0x76 ROR zpx (rule R234). -/
def execRorZpx (a : Byte) (s : State) : Result := .next (opRor (.zpx a) s)

/-- 0x7E ROR absx (rule R234). -/
def execRorAbsx (w : Word) (s : State) : Result := .next (opRor (.absx w) s)

end Sys2Proof.Machine
end

