-- ==== Sys2Proof/Machine/Stack.lean ====
section
/-! DEFINITION. Stack instructions (42_stack.md, rules R190 to R194). -/

namespace Sys2Proof.Machine

/-! ## Shared operations -/

/-- PHA (rule R190): the dummy read, then `Push(A)`. -/
def opPha (s : State) : State := push s.a (implied s)

/-- PHP (rule R191): `Push(Pack(1))`. -/
def opPhp (s : State) : State := push (s.p.pack true) (implied s)

/-- Cycles 2 to 4 of PLA and PLP: two dummy reads, then `Pull()` (rules R192, R193). -/
def pullAfterDummies (s : State) : Byte × State :=
  let s1 := implied s
  pull (dummyRead (stackAddr s1.s) s1)

/-- PLA (rule R192). -/
def opPla (s : State) : State :=
  let r := pullAfterDummies s
  (r.2.setA r.1).setNZ r.1

/-- PLP (rule R193): all six flags from the pulled byte, bits 5 and 4 ignored. -/
def opPlp (s : State) : State :=
  let r := pullAfterDummies s
  r.2.setP (Flags.unpack r.1)

/-! ## The instructions -/

/-- 0x48 PHA imp (rule R190). -/
def execPha (s : State) : Result := .next (opPha s)

/-- 0x08 PHP imp (rule R191). -/
def execPhp (s : State) : Result := .next (opPhp s)

/-- 0x68 PLA imp (rule R192). -/
def execPla (s : State) : Result := .next (opPla s)

/-- 0x28 PLP imp (rule R193). -/
def execPlp (s : State) : Result := .next (opPlp s)

end Sys2Proof.Machine
end

