-- ==== Sys2Proof/Machine/System.lean ====
section
/-! DEFINITION. Flag instructions, NOP, BRK and RTI (46_flags_system.md, rules R260 to R270). -/

namespace Sys2Proof.Machine

/-! ## Shared operations -/

/-- CLC (rule R260). -/
def opClc (s : State) : State := impliedThen (fun t => t.setP { t.p with c := false }) s

/-- SEC (rule R261). -/
def opSec (s : State) : State := impliedThen (fun t => t.setP { t.p with c := true }) s

/-- CLI (rule R262). -/
def opCli (s : State) : State := impliedThen (fun t => t.setP { t.p with i := false }) s

/-- SEI (rule R263). -/
def opSei (s : State) : State := impliedThen (fun t => t.setP { t.p with i := true }) s

/-- CLD (rule R264). -/
def opCld (s : State) : State := impliedThen (fun t => t.setP { t.p with d := false }) s

/-- SED (rule R265). -/
def opSed (s : State) : State := impliedThen (fun t => t.setP { t.p with d := true }) s

/-- CLV (rule R266). -/
def opClv (s : State) : State := impliedThen (fun t => t.setP { t.p with v := false }) s

/-! ## The instructions -/

/-- 0x18 CLC imp (rule R260). -/
def execClc (s : State) : Result := .next (opClc s)

/-- 0x38 SEC imp (rule R261). -/
def execSec (s : State) : Result := .next (opSec s)

/-- 0x58 CLI imp (rule R262). -/
def execCli (s : State) : Result := .next (opCli s)

/-- 0x78 SEI imp (rule R263). -/
def execSei (s : State) : Result := .next (opSei s)

/-- 0xD8 CLD imp (rule R264). -/
def execCld (s : State) : Result := .next (opCld s)

/-- 0xF8 SED imp (rule R265). -/
def execSed (s : State) : Result := .next (opSed s)

/-- 0xB8 CLV imp (rule R266). -/
def execClv (s : State) : Result := .next (opClv s)

/-- 0xEA NOP imp (rule R267). -/
def execNop (s : State) : Result := .next (implied s)

/-- 0x00 BRK imp (rule R268). -/
def execBrk (_pad : Byte) (s : State) : Result := .next (enterInterrupt true s)

/-- 0x40 RTI imp (rule R269). -/
def execRti (s : State) : Result := .next (returnFromInterrupt s)

end Sys2Proof.Machine
end

