-- ==== Sys2Proof/Machine/Unofficial.lean ====
section
/-! DEFINITION. The 105 unofficial opcodes (47_unofficial.md, rules R280 to R303). -/

namespace Sys2Proof.Machine

/-! ## Shared operations -/

/-- LAX (rules R281, R282): `A <- M; X <- M; SetNZ(M)`. -/
def opLax (src : Source) (s : State) : State := readThen src (fun m t => ((t.setA m).setX m).setNZ m) s

/-- SAX (rule R283): `WriteOperand(A & X)`, no flag. -/
def opSax (o : Operand) (s : State) : State := writeOperand o (s.a &&& s.x) s

/-- DCP (rule R284): decrement, then compare A with the new byte. -/
def opDcp (o : Operand) (s : State) : State :=
  modifyOperand o (fun m t => (m - 1#8, t.compare t.a (m - 1#8))) s

/-- ISC (rule R285): increment, then subtract the new byte from A. -/
def opIsc (o : Operand) (s : State) : State :=
  modifyOperand o (fun m t => (m + 1#8, t.addA (~~~(m + 1#8)))) s

/-- What SLO, RLA and SRE do after their shift: C from the shift, A and N, Z from the combination (rules R286 to
R288). -/
def State.combine (q : ShiftResult) (v : Byte) (s : State) : State :=
  (s.setA v).setP ({ s.p with c := q.c }.setNZ v)

/-- SLO (rule R286). -/
def opSlo (o : Operand) (s : State) : State :=
  modifyOperand o (fun m t => let q := aslByte m; (q.r, t.combine q (t.a ||| q.r))) s

/-- RLA (rule R287). -/
def opRla (o : Operand) (s : State) : State :=
  modifyOperand o (fun m t => let q := rolByte t.p.c m; (q.r, t.combine q (t.a &&& q.r))) s

/-- SRE (rule R288). -/
def opSre (o : Operand) (s : State) : State :=
  modifyOperand o (fun m t => let q := lsrByte m; (q.r, t.combine q (t.a ^^^ q.r))) s

/-- RRA (rule R289): rotate right, then add with the carry the rotation has set. -/
def opRra (o : Operand) (s : State) : State :=
  modifyOperand o (fun m t => let q := rorByte t.p.c m; (q.r, (t.setP (t.p.afterShift q)).addA q.r)) s

/-- ALR (rule R290): `A <- LSRf(A & M)`. -/
def opAlr (src : Source) (s : State) : State :=
  readThen src (fun m t => let q := lsrByte (t.a &&& m); (t.setA q.r).setP (t.p.afterShift q)) s

/-- ANC (rule R291): AND, then C is bit 7 of A. -/
def opAnc (src : Source) (s : State) : State :=
  readThen src (fun m t => let v := t.a &&& m; (t.setA v).setP { t.p.setNZ v with c := v.getLsbD 7 }) s

/-- ARR (rule R292): AND, rotate right; C is bit 6 and V bit 6 xor bit 5 of A. -/
def opArr (src : Source) (s : State) : State :=
  readThen src (fun m t =>
    let v := (rorByte t.p.c (t.a &&& m)).r
    (t.setA v).setP { t.p.setNZ v with c := v.getLsbD 6, v := v.getLsbD 6 ^^ v.getLsbD 5 }) s

/-- AXS (rule R293): `X <- (A & X) - M` without borrow; flags as a comparison of `A & X` with M. -/
def opAxs (src : Source) (s : State) : State :=
  readThen src (fun m t => let v := t.a &&& t.x; (t.setX (v - m)).compare v m) s

/-- An unofficial NOP with an operand (rules R295, R296): the operand is read and discarded. -/
def opNop (src : Source) (s : State) : State := readThen src (fun _ t => t) s

/-! ## The instructions -/

/-- 0xA3 LAX izx (rule R281). -/
def execLaxIzx (q : Byte) (s : State) : Result := .next (opLax (.mem (.izx q)) s)

/-- 0xA7 LAX zp (rule R281). -/
def execLaxZp (a : Byte) (s : State) : Result := .next (opLax (.mem (.zp a)) s)

/-- 0xAB LAX imm (rule R282). -/
def execLaxImm (m : Byte) (s : State) : Result := .next (opLax (.imm m) s)

/-- 0xAF LAX abs (rule R281). -/
def execLaxAbs (w : Word) (s : State) : Result := .next (opLax (.mem (.abs w)) s)

/-- 0xB3 LAX izy (rule R281). -/
def execLaxIzy (q : Byte) (s : State) : Result := .next (opLax (.mem (.izy q)) s)

/-- 0xB7 LAX zpy (rule R281). -/
def execLaxZpy (a : Byte) (s : State) : Result := .next (opLax (.mem (.zpy a)) s)

/-- 0xBF LAX absy (rule R281). -/
def execLaxAbsy (w : Word) (s : State) : Result := .next (opLax (.mem (.absy w)) s)

/-- 0x83 SAX izx (rule R283). -/
def execSaxIzx (q : Byte) (s : State) : Result := .next (opSax (.izx q) s)

/-- 0x87 SAX zp (rule R283). -/
def execSaxZp (a : Byte) (s : State) : Result := .next (opSax (.zp a) s)

/-- 0x8F SAX abs (rule R283). -/
def execSaxAbs (w : Word) (s : State) : Result := .next (opSax (.abs w) s)

/-- 0x97 SAX zpy (rule R283). -/
def execSaxZpy (a : Byte) (s : State) : Result := .next (opSax (.zpy a) s)

/-- 0xC3 DCP izx (rule R284). -/
def execDcpIzx (q : Byte) (s : State) : Result := .next (opDcp (.izx q) s)

/-- 0xC7 DCP zp (rule R284). -/
def execDcpZp (a : Byte) (s : State) : Result := .next (opDcp (.zp a) s)

/-- 0xCF DCP abs (rule R284). -/
def execDcpAbs (w : Word) (s : State) : Result := .next (opDcp (.abs w) s)

/-- 0xD3 DCP izy (rule R284). -/
def execDcpIzy (q : Byte) (s : State) : Result := .next (opDcp (.izy q) s)

/-- 0xD7 DCP zpx (rule R284). -/
def execDcpZpx (a : Byte) (s : State) : Result := .next (opDcp (.zpx a) s)

/-- 0xDB DCP absy (rule R284). -/
def execDcpAbsy (w : Word) (s : State) : Result := .next (opDcp (.absy w) s)

/-- 0xDF DCP absx (rule R284). -/
def execDcpAbsx (w : Word) (s : State) : Result := .next (opDcp (.absx w) s)

/-- 0xE3 ISC izx (rule R285). -/
def execIscIzx (q : Byte) (s : State) : Result := .next (opIsc (.izx q) s)

/-- 0xE7 ISC zp (rule R285). -/
def execIscZp (a : Byte) (s : State) : Result := .next (opIsc (.zp a) s)

/-- 0xEF ISC abs (rule R285). -/
def execIscAbs (w : Word) (s : State) : Result := .next (opIsc (.abs w) s)

/-- 0xF3 ISC izy (rule R285). -/
def execIscIzy (q : Byte) (s : State) : Result := .next (opIsc (.izy q) s)

/-- 0xF7 ISC zpx (rule R285). -/
def execIscZpx (a : Byte) (s : State) : Result := .next (opIsc (.zpx a) s)

/-- 0xFB ISC absy (rule R285). -/
def execIscAbsy (w : Word) (s : State) : Result := .next (opIsc (.absy w) s)

/-- 0xFF ISC absx (rule R285). -/
def execIscAbsx (w : Word) (s : State) : Result := .next (opIsc (.absx w) s)

/-- 0x03 SLO izx (rule R286). -/
def execSloIzx (q : Byte) (s : State) : Result := .next (opSlo (.izx q) s)

/-- 0x07 SLO zp (rule R286). -/
def execSloZp (a : Byte) (s : State) : Result := .next (opSlo (.zp a) s)

/-- 0x0F SLO abs (rule R286). -/
def execSloAbs (w : Word) (s : State) : Result := .next (opSlo (.abs w) s)

/-- 0x13 SLO izy (rule R286). -/
def execSloIzy (q : Byte) (s : State) : Result := .next (opSlo (.izy q) s)

/-- 0x17 SLO zpx (rule R286). -/
def execSloZpx (a : Byte) (s : State) : Result := .next (opSlo (.zpx a) s)

/-- 0x1B SLO absy (rule R286). -/
def execSloAbsy (w : Word) (s : State) : Result := .next (opSlo (.absy w) s)

/-- 0x1F SLO absx (rule R286). -/
def execSloAbsx (w : Word) (s : State) : Result := .next (opSlo (.absx w) s)

/-- 0x23 RLA izx (rule R287). -/
def execRlaIzx (q : Byte) (s : State) : Result := .next (opRla (.izx q) s)

/-- 0x27 RLA zp (rule R287). -/
def execRlaZp (a : Byte) (s : State) : Result := .next (opRla (.zp a) s)

/-- 0x2F RLA abs (rule R287). -/
def execRlaAbs (w : Word) (s : State) : Result := .next (opRla (.abs w) s)

/-- 0x33 RLA izy (rule R287). -/
def execRlaIzy (q : Byte) (s : State) : Result := .next (opRla (.izy q) s)

/-- 0x37 RLA zpx (rule R287). -/
def execRlaZpx (a : Byte) (s : State) : Result := .next (opRla (.zpx a) s)

/-- 0x3B RLA absy (rule R287). -/
def execRlaAbsy (w : Word) (s : State) : Result := .next (opRla (.absy w) s)

/-- 0x3F RLA absx (rule R287). -/
def execRlaAbsx (w : Word) (s : State) : Result := .next (opRla (.absx w) s)

/-- 0x43 SRE izx (rule R288). -/
def execSreIzx (q : Byte) (s : State) : Result := .next (opSre (.izx q) s)

/-- 0x47 SRE zp (rule R288). -/
def execSreZp (a : Byte) (s : State) : Result := .next (opSre (.zp a) s)

/-- 0x4F SRE abs (rule R288). -/
def execSreAbs (w : Word) (s : State) : Result := .next (opSre (.abs w) s)

/-- 0x53 SRE izy (rule R288). -/
def execSreIzy (q : Byte) (s : State) : Result := .next (opSre (.izy q) s)

/-- 0x57 SRE zpx (rule R288). -/
def execSreZpx (a : Byte) (s : State) : Result := .next (opSre (.zpx a) s)

/-- 0x5B SRE absy (rule R288). -/
def execSreAbsy (w : Word) (s : State) : Result := .next (opSre (.absy w) s)

/-- 0x5F SRE absx (rule R288). -/
def execSreAbsx (w : Word) (s : State) : Result := .next (opSre (.absx w) s)

/-- 0x63 RRA izx (rule R289). -/
def execRraIzx (q : Byte) (s : State) : Result := .next (opRra (.izx q) s)

/-- 0x67 RRA zp (rule R289). -/
def execRraZp (a : Byte) (s : State) : Result := .next (opRra (.zp a) s)

/-- 0x6F RRA abs (rule R289). -/
def execRraAbs (w : Word) (s : State) : Result := .next (opRra (.abs w) s)

/-- 0x73 RRA izy (rule R289). -/
def execRraIzy (q : Byte) (s : State) : Result := .next (opRra (.izy q) s)

/-- 0x77 RRA zpx (rule R289). -/
def execRraZpx (a : Byte) (s : State) : Result := .next (opRra (.zpx a) s)

/-- 0x7B RRA absy (rule R289). -/
def execRraAbsy (w : Word) (s : State) : Result := .next (opRra (.absy w) s)

/-- 0x7F RRA absx (rule R289). -/
def execRraAbsx (w : Word) (s : State) : Result := .next (opRra (.absx w) s)

/-- 0x4B ALR imm (rule R290). -/
def execAlrImm (m : Byte) (s : State) : Result := .next (opAlr (.imm m) s)

/-- 0x0B ANC imm (rule R291). -/
def execAncImm0B (m : Byte) (s : State) : Result := .next (opAnc (.imm m) s)

/-- 0x2B ANC imm (rule R291). -/
def execAncImm2B (m : Byte) (s : State) : Result := .next (opAnc (.imm m) s)

/-- 0x6B ARR imm (rule R292). -/
def execArrImm (m : Byte) (s : State) : Result := .next (opArr (.imm m) s)

/-- 0xCB AXS imm (rule R293). -/
def execAxsImm (m : Byte) (s : State) : Result := .next (opAxs (.imm m) s)

/-- 0xEB SBC imm (rule R294). -/
def execSbcImmEB (m : Byte) (s : State) : Result := .next (opSbc (.imm m) s)

/-- 0x04 NOP zp (rule R295). -/
def execNopZp04 (a : Byte) (s : State) : Result := .next (opNop (.mem (.zp a)) s)

/-- 0x0C NOP abs (rule R295). -/
def execNopAbs (w : Word) (s : State) : Result := .next (opNop (.mem (.abs w)) s)

/-- 0x14 NOP zpx (rule R295). -/
def execNopZpx14 (a : Byte) (s : State) : Result := .next (opNop (.mem (.zpx a)) s)

/-- 0x1A NOP imp (rule R295). -/
def execNopImp1A (s : State) : Result := .next (implied s)

/-- 0x1C NOP absx (rule R295). -/
def execNopAbsx1C (w : Word) (s : State) : Result := .next (opNop (.mem (.absx w)) s)

/-- 0x34 NOP zpx (rule R295). -/
def execNopZpx34 (a : Byte) (s : State) : Result := .next (opNop (.mem (.zpx a)) s)

/-- 0x3A NOP imp (rule R295). -/
def execNopImp3A (s : State) : Result := .next (implied s)

/-- 0x3C NOP absx (rule R295). -/
def execNopAbsx3C (w : Word) (s : State) : Result := .next (opNop (.mem (.absx w)) s)

/-- 0x44 NOP zp (rule R295). -/
def execNopZp44 (a : Byte) (s : State) : Result := .next (opNop (.mem (.zp a)) s)

/-- 0x54 NOP zpx (rule R295). -/
def execNopZpx54 (a : Byte) (s : State) : Result := .next (opNop (.mem (.zpx a)) s)

/-- 0x5A NOP imp (rule R295). -/
def execNopImp5A (s : State) : Result := .next (implied s)

/-- 0x5C NOP absx (rule R295). -/
def execNopAbsx5C (w : Word) (s : State) : Result := .next (opNop (.mem (.absx w)) s)

/-- 0x64 NOP zp (rule R295). -/
def execNopZp64 (a : Byte) (s : State) : Result := .next (opNop (.mem (.zp a)) s)

/-- 0x74 NOP zpx (rule R295). -/
def execNopZpx74 (a : Byte) (s : State) : Result := .next (opNop (.mem (.zpx a)) s)

/-- 0x7A NOP imp (rule R295). -/
def execNopImp7A (s : State) : Result := .next (implied s)

/-- 0x7C NOP absx (rule R295). -/
def execNopAbsx7C (w : Word) (s : State) : Result := .next (opNop (.mem (.absx w)) s)

/-- 0x80 NOP imm (rule R295). -/
def execNopImm80 (m : Byte) (s : State) : Result := .next (opNop (.imm m) s)

/-- 0x82 NOP imm (rule R295). -/
def execNopImm82 (m : Byte) (s : State) : Result := .next (opNop (.imm m) s)

/-- 0x89 NOP imm (rule R295). -/
def execNopImm89 (m : Byte) (s : State) : Result := .next (opNop (.imm m) s)

/-- 0xC2 NOP imm (rule R295). -/
def execNopImmC2 (m : Byte) (s : State) : Result := .next (opNop (.imm m) s)

/-- 0xD4 NOP zpx (rule R295). -/
def execNopZpxD4 (a : Byte) (s : State) : Result := .next (opNop (.mem (.zpx a)) s)

/-- 0xDA NOP imp (rule R295). -/
def execNopImpDA (s : State) : Result := .next (implied s)

/-- 0xDC NOP absx (rule R295). -/
def execNopAbsxDC (w : Word) (s : State) : Result := .next (opNop (.mem (.absx w)) s)

/-- 0xE2 NOP imm (rule R295). -/
def execNopImmE2 (m : Byte) (s : State) : Result := .next (opNop (.imm m) s)

/-- 0xF4 NOP zpx (rule R295). -/
def execNopZpxF4 (a : Byte) (s : State) : Result := .next (opNop (.mem (.zpx a)) s)

/-- 0xFA NOP imp (rule R295). -/
def execNopImpFA (s : State) : Result := .next (implied s)

/-- 0xFC NOP absx (rule R295). -/
def execNopAbsxFC (w : Word) (s : State) : Result := .next (opNop (.mem (.absx w)) s)

/-- 0x8B XAA imm (rule R297). -/
def execXaaImm (m : Byte) (s : State) : Result := underPolicy s.params.unstable 0x8B#8 (opNop (.imm m)) s

/-- 0xBB LAS absy (rule R298). -/
def execLasAbsy (w : Word) (s : State) : Result := underPolicy s.params.unstable 0xBB#8 (opNop (.mem (.absy w))) s

/-- 0x93 AHX izy (rule R299). -/
def execAhxIzy (q : Byte) (s : State) : Result := underPolicy s.params.unstable 0x93#8 (nopWriteOperand (.izy q)) s

/-- 0x9F AHX absy (rule R299). -/
def execAhxAbsy (w : Word) (s : State) : Result := underPolicy s.params.unstable 0x9F#8 (nopWriteOperand (.absy w)) s

/-- 0x9B TAS absy (rule R300). -/
def execTasAbsy (w : Word) (s : State) : Result := underPolicy s.params.unstable 0x9B#8 (nopWriteOperand (.absy w)) s

/-- 0x9C SHY absx (rule R301). -/
def execShyAbsx (w : Word) (s : State) : Result := underPolicy s.params.unstable 0x9C#8 (nopWriteOperand (.absx w)) s

/-- 0x9E SHX absy (rule R302). -/
def execShxAbsy (w : Word) (s : State) : Result := underPolicy s.params.unstable 0x9E#8 (nopWriteOperand (.absy w)) s

/-- 0x02 JAM imp (rule R303). -/
def execJam02 (s : State) : Result := underPolicy s.params.jam 0x02#8 implied s

/-- 0x12 JAM imp (rule R303). -/
def execJam12 (s : State) : Result := underPolicy s.params.jam 0x12#8 implied s

/-- 0x22 JAM imp (rule R303). -/
def execJam22 (s : State) : Result := underPolicy s.params.jam 0x22#8 implied s

/-- 0x32 JAM imp (rule R303). -/
def execJam32 (s : State) : Result := underPolicy s.params.jam 0x32#8 implied s

/-- 0x42 JAM imp (rule R303). -/
def execJam42 (s : State) : Result := underPolicy s.params.jam 0x42#8 implied s

/-- 0x52 JAM imp (rule R303). -/
def execJam52 (s : State) : Result := underPolicy s.params.jam 0x52#8 implied s

/-- 0x62 JAM imp (rule R303). -/
def execJam62 (s : State) : Result := underPolicy s.params.jam 0x62#8 implied s

/-- 0x72 JAM imp (rule R303). -/
def execJam72 (s : State) : Result := underPolicy s.params.jam 0x72#8 implied s

/-- 0x92 JAM imp (rule R303). -/
def execJam92 (s : State) : Result := underPolicy s.params.jam 0x92#8 implied s

/-- 0xB2 JAM imp (rule R303). -/
def execJamB2 (s : State) : Result := underPolicy s.params.jam 0xB2#8 implied s

/-- 0xD2 JAM imp (rule R303). -/
def execJamD2 (s : State) : Result := underPolicy s.params.jam 0xD2#8 implied s

/-- 0xF2 JAM imp (rule R303). -/
def execJamF2 (s : State) : Result := underPolicy s.params.jam 0xF2#8 implied s

end Sys2Proof.Machine
end

