-- ==== Sys2Proof/Syntax.lean ====
section
/-! DEFINITION. The syntax: one constructor per row of the opcode table (30_encoding.md Table 30-B, rules R100 to R107).
A name is the mnemonic and the mode; where several opcodes share both, the unofficial ones carry their opcode. Operands
are as Table 30-A assembles them: a byte (immediate, zero-page address, offset, BRK's padding) or `b2:b1`. The rows with
operands stand first, each part in opcode order. -/

namespace Sys2Proof

/-- An instruction: the 256 rows of Table 30-B. -/
inductive Instr where
  /-- 0x00 BRK imp (R268) -/
  | brk (pad : Byte)
  /-- 0x01 ORA izx (R204) -/
  | oraIzx (q : Byte)
  /-- 0x03 SLO izx (R286) -/
  | sloIzx (q : Byte)
  /-- 0x04 NOP zp (R295) -/
  | nopZp04 (a : Byte)
  /-- 0x05 ORA zp (R204) -/
  | oraZp (a : Byte)
  /-- 0x06 ASL zp (R231) -/
  | aslZp (a : Byte)
  /-- 0x07 SLO zp (R286) -/
  | sloZp (a : Byte)
  /-- 0x09 ORA imm (R204) -/
  | oraImm (m : Byte)
  /-- 0x0B ANC imm (R291) -/
  | ancImm0B (m : Byte)
  /-- 0x0C NOP abs (R295) -/
  | nopAbs (w : Word)
  /-- 0x0D ORA abs (R204) -/
  | oraAbs (w : Word)
  /-- 0x0E ASL abs (R231) -/
  | aslAbs (w : Word)
  /-- 0x0F SLO abs (R286) -/
  | sloAbs (w : Word)
  /-- 0x10 BPL rel (R248) -/
  | bpl (off : Byte)
  /-- 0x11 ORA izy (R204) -/
  | oraIzy (q : Byte)
  /-- 0x13 SLO izy (R286) -/
  | sloIzy (q : Byte)
  /-- 0x14 NOP zpx (R295) -/
  | nopZpx14 (a : Byte)
  /-- 0x15 ORA zpx (R204) -/
  | oraZpx (a : Byte)
  /-- 0x16 ASL zpx (R231) -/
  | aslZpx (a : Byte)
  /-- 0x17 SLO zpx (R286) -/
  | sloZpx (a : Byte)
  /-- 0x19 ORA absy (R204) -/
  | oraAbsy (w : Word)
  /-- 0x1B SLO absy (R286) -/
  | sloAbsy (w : Word)
  /-- 0x1C NOP absx (R295) -/
  | nopAbsx1C (w : Word)
  /-- 0x1D ORA absx (R204) -/
  | oraAbsx (w : Word)
  /-- 0x1E ASL absx (R231) -/
  | aslAbsx (w : Word)
  /-- 0x1F SLO absx (R286) -/
  | sloAbsx (w : Word)
  /-- 0x20 JSR abs (R251) -/
  | jsr (w : Word)
  /-- 0x21 AND izx (R203) -/
  | andIzx (q : Byte)
  /-- 0x23 RLA izx (R287) -/
  | rlaIzx (q : Byte)
  /-- 0x24 BIT zp (R210) -/
  | bitZp (a : Byte)
  /-- 0x25 AND zp (R203) -/
  | andZp (a : Byte)
  /-- 0x26 ROL zp (R233) -/
  | rolZp (a : Byte)
  /-- 0x27 RLA zp (R287) -/
  | rlaZp (a : Byte)
  /-- 0x29 AND imm (R203) -/
  | andImm (m : Byte)
  /-- 0x2B ANC imm (R291) -/
  | ancImm2B (m : Byte)
  /-- 0x2C BIT abs (R210) -/
  | bitAbs (w : Word)
  /-- 0x2D AND abs (R203) -/
  | andAbs (w : Word)
  /-- 0x2E ROL abs (R233) -/
  | rolAbs (w : Word)
  /-- 0x2F RLA abs (R287) -/
  | rlaAbs (w : Word)
  /-- 0x30 BMI rel (R246) -/
  | bmi (off : Byte)
  /-- 0x31 AND izy (R203) -/
  | andIzy (q : Byte)
  /-- 0x33 RLA izy (R287) -/
  | rlaIzy (q : Byte)
  /-- 0x34 NOP zpx (R295) -/
  | nopZpx34 (a : Byte)
  /-- 0x35 AND zpx (R203) -/
  | andZpx (a : Byte)
  /-- 0x36 ROL zpx (R233) -/
  | rolZpx (a : Byte)
  /-- 0x37 RLA zpx (R287) -/
  | rlaZpx (a : Byte)
  /-- 0x39 AND absy (R203) -/
  | andAbsy (w : Word)
  /-- 0x3B RLA absy (R287) -/
  | rlaAbsy (w : Word)
  /-- 0x3C NOP absx (R295) -/
  | nopAbsx3C (w : Word)
  /-- 0x3D AND absx (R203) -/
  | andAbsx (w : Word)
  /-- 0x3E ROL absx (R233) -/
  | rolAbsx (w : Word)
  /-- 0x3F RLA absx (R287) -/
  | rlaAbsx (w : Word)
  /-- 0x41 EOR izx (R205) -/
  | eorIzx (q : Byte)
  /-- 0x43 SRE izx (R288) -/
  | sreIzx (q : Byte)
  /-- 0x44 NOP zp (R295) -/
  | nopZp44 (a : Byte)
  /-- 0x45 EOR zp (R205) -/
  | eorZp (a : Byte)
  /-- 0x46 LSR zp (R232) -/
  | lsrZp (a : Byte)
  /-- 0x47 SRE zp (R288) -/
  | sreZp (a : Byte)
  /-- 0x49 EOR imm (R205) -/
  | eorImm (m : Byte)
  /-- 0x4B ALR imm (R290) -/
  | alrImm (m : Byte)
  /-- 0x4C JMP abs (R240) -/
  | jmpAbs (w : Word)
  /-- 0x4D EOR abs (R205) -/
  | eorAbs (w : Word)
  /-- 0x4E LSR abs (R232) -/
  | lsrAbs (w : Word)
  /-- 0x4F SRE abs (R288) -/
  | sreAbs (w : Word)
  /-- 0x50 BVC rel (R249) -/
  | bvc (off : Byte)
  /-- 0x51 EOR izy (R205) -/
  | eorIzy (q : Byte)
  /-- 0x53 SRE izy (R288) -/
  | sreIzy (q : Byte)
  /-- 0x54 NOP zpx (R295) -/
  | nopZpx54 (a : Byte)
  /-- 0x55 EOR zpx (R205) -/
  | eorZpx (a : Byte)
  /-- 0x56 LSR zpx (R232) -/
  | lsrZpx (a : Byte)
  /-- 0x57 SRE zpx (R288) -/
  | sreZpx (a : Byte)
  /-- 0x59 EOR absy (R205) -/
  | eorAbsy (w : Word)
  /-- 0x5B SRE absy (R288) -/
  | sreAbsy (w : Word)
  /-- 0x5C NOP absx (R295) -/
  | nopAbsx5C (w : Word)
  /-- 0x5D EOR absx (R205) -/
  | eorAbsx (w : Word)
  /-- 0x5E LSR absx (R232) -/
  | lsrAbsx (w : Word)
  /-- 0x5F SRE absx (R288) -/
  | sreAbsx (w : Word)
  /-- 0x61 ADC izx (R201) -/
  | adcIzx (q : Byte)
  /-- 0x63 RRA izx (R289) -/
  | rraIzx (q : Byte)
  /-- 0x64 NOP zp (R295) -/
  | nopZp64 (a : Byte)
  /-- 0x65 ADC zp (R201) -/
  | adcZp (a : Byte)
  /-- 0x66 ROR zp (R234) -/
  | rorZp (a : Byte)
  /-- 0x67 RRA zp (R289) -/
  | rraZp (a : Byte)
  /-- 0x69 ADC imm (R201) -/
  | adcImm (m : Byte)
  /-- 0x6B ARR imm (R292) -/
  | arrImm (m : Byte)
  /-- 0x6C JMP ind (R240) -/
  | jmpInd (w : Word)
  /-- 0x6D ADC abs (R201) -/
  | adcAbs (w : Word)
  /-- 0x6E ROR abs (R234) -/
  | rorAbs (w : Word)
  /-- 0x6F RRA abs (R289) -/
  | rraAbs (w : Word)
  /-- 0x70 BVS rel (R250) -/
  | bvs (off : Byte)
  /-- 0x71 ADC izy (R201) -/
  | adcIzy (q : Byte)
  /-- 0x73 RRA izy (R289) -/
  | rraIzy (q : Byte)
  /-- 0x74 NOP zpx (R295) -/
  | nopZpx74 (a : Byte)
  /-- 0x75 ADC zpx (R201) -/
  | adcZpx (a : Byte)
  /-- 0x76 ROR zpx (R234) -/
  | rorZpx (a : Byte)
  /-- 0x77 RRA zpx (R289) -/
  | rraZpx (a : Byte)
  /-- 0x79 ADC absy (R201) -/
  | adcAbsy (w : Word)
  /-- 0x7B RRA absy (R289) -/
  | rraAbsy (w : Word)
  /-- 0x7C NOP absx (R295) -/
  | nopAbsx7C (w : Word)
  /-- 0x7D ADC absx (R201) -/
  | adcAbsx (w : Word)
  /-- 0x7E ROR absx (R234) -/
  | rorAbsx (w : Word)
  /-- 0x7F RRA absx (R289) -/
  | rraAbsx (w : Word)
  /-- 0x80 NOP imm (R295) -/
  | nopImm80 (m : Byte)
  /-- 0x81 STA izx (R173) -/
  | staIzx (q : Byte)
  /-- 0x82 NOP imm (R295) -/
  | nopImm82 (m : Byte)
  /-- 0x83 SAX izx (R283) -/
  | saxIzx (q : Byte)
  /-- 0x84 STY zp (R175) -/
  | styZp (a : Byte)
  /-- 0x85 STA zp (R173) -/
  | staZp (a : Byte)
  /-- 0x86 STX zp (R174) -/
  | stxZp (a : Byte)
  /-- 0x87 SAX zp (R283) -/
  | saxZp (a : Byte)
  /-- 0x89 NOP imm (R295) -/
  | nopImm89 (m : Byte)
  /-- 0x8B XAA imm (R297) -/
  | xaaImm (m : Byte)
  /-- 0x8C STY abs (R175) -/
  | styAbs (w : Word)
  /-- 0x8D STA abs (R173) -/
  | staAbs (w : Word)
  /-- 0x8E STX abs (R174) -/
  | stxAbs (w : Word)
  /-- 0x8F SAX abs (R283) -/
  | saxAbs (w : Word)
  /-- 0x90 BCC rel (R243) -/
  | bcc (off : Byte)
  /-- 0x91 STA izy (R173) -/
  | staIzy (q : Byte)
  /-- 0x93 AHX izy (R299) -/
  | ahxIzy (q : Byte)
  /-- 0x94 STY zpx (R175) -/
  | styZpx (a : Byte)
  /-- 0x95 STA zpx (R173) -/
  | staZpx (a : Byte)
  /-- 0x96 STX zpy (R174) -/
  | stxZpy (a : Byte)
  /-- 0x97 SAX zpy (R283) -/
  | saxZpy (a : Byte)
  /-- 0x99 STA absy (R173) -/
  | staAbsy (w : Word)
  /-- 0x9B TAS absy (R300) -/
  | tasAbsy (w : Word)
  /-- 0x9C SHY absx (R301) -/
  | shyAbsx (w : Word)
  /-- 0x9D STA absx (R173) -/
  | staAbsx (w : Word)
  /-- 0x9E SHX absy (R302) -/
  | shxAbsy (w : Word)
  /-- 0x9F AHX absy (R299) -/
  | ahxAbsy (w : Word)
  /-- 0xA0 LDY imm (R172) -/
  | ldyImm (m : Byte)
  /-- 0xA1 LDA izx (R170) -/
  | ldaIzx (q : Byte)
  /-- 0xA2 LDX imm (R171) -/
  | ldxImm (m : Byte)
  /-- 0xA3 LAX izx (R281) -/
  | laxIzx (q : Byte)
  /-- 0xA4 LDY zp (R172) -/
  | ldyZp (a : Byte)
  /-- 0xA5 LDA zp (R170) -/
  | ldaZp (a : Byte)
  /-- 0xA6 LDX zp (R171) -/
  | ldxZp (a : Byte)
  /-- 0xA7 LAX zp (R281) -/
  | laxZp (a : Byte)
  /-- 0xA9 LDA imm (R170) -/
  | ldaImm (m : Byte)
  /-- 0xAB LAX imm (R282) -/
  | laxImm (m : Byte)
  /-- 0xAC LDY abs (R172) -/
  | ldyAbs (w : Word)
  /-- 0xAD LDA abs (R170) -/
  | ldaAbs (w : Word)
  /-- 0xAE LDX abs (R171) -/
  | ldxAbs (w : Word)
  /-- 0xAF LAX abs (R281) -/
  | laxAbs (w : Word)
  /-- 0xB0 BCS rel (R244) -/
  | bcs (off : Byte)
  /-- 0xB1 LDA izy (R170) -/
  | ldaIzy (q : Byte)
  /-- 0xB3 LAX izy (R281) -/
  | laxIzy (q : Byte)
  /-- 0xB4 LDY zpx (R172) -/
  | ldyZpx (a : Byte)
  /-- 0xB5 LDA zpx (R170) -/
  | ldaZpx (a : Byte)
  /-- 0xB6 LDX zpy (R171) -/
  | ldxZpy (a : Byte)
  /-- 0xB7 LAX zpy (R281) -/
  | laxZpy (a : Byte)
  /-- 0xB9 LDA absy (R170) -/
  | ldaAbsy (w : Word)
  /-- 0xBB LAS absy (R298) -/
  | lasAbsy (w : Word)
  /-- 0xBC LDY absx (R172) -/
  | ldyAbsx (w : Word)
  /-- 0xBD LDA absx (R170) -/
  | ldaAbsx (w : Word)
  /-- 0xBE LDX absy (R171) -/
  | ldxAbsy (w : Word)
  /-- 0xBF LAX absy (R281) -/
  | laxAbsy (w : Word)
  /-- 0xC0 CPY imm (R209) -/
  | cpyImm (m : Byte)
  /-- 0xC1 CMP izx (R207) -/
  | cmpIzx (q : Byte)
  /-- 0xC2 NOP imm (R295) -/
  | nopImmC2 (m : Byte)
  /-- 0xC3 DCP izx (R284) -/
  | dcpIzx (q : Byte)
  /-- 0xC4 CPY zp (R209) -/
  | cpyZp (a : Byte)
  /-- 0xC5 CMP zp (R207) -/
  | cmpZp (a : Byte)
  /-- 0xC6 DEC zp (R212) -/
  | decZp (a : Byte)
  /-- 0xC7 DCP zp (R284) -/
  | dcpZp (a : Byte)
  /-- 0xC9 CMP imm (R207) -/
  | cmpImm (m : Byte)
  /-- 0xCB AXS imm (R293) -/
  | axsImm (m : Byte)
  /-- 0xCC CPY abs (R209) -/
  | cpyAbs (w : Word)
  /-- 0xCD CMP abs (R207) -/
  | cmpAbs (w : Word)
  /-- 0xCE DEC abs (R212) -/
  | decAbs (w : Word)
  /-- 0xCF DCP abs (R284) -/
  | dcpAbs (w : Word)
  /-- 0xD0 BNE rel (R247) -/
  | bne (off : Byte)
  /-- 0xD1 CMP izy (R207) -/
  | cmpIzy (q : Byte)
  /-- 0xD3 DCP izy (R284) -/
  | dcpIzy (q : Byte)
  /-- 0xD4 NOP zpx (R295) -/
  | nopZpxD4 (a : Byte)
  /-- 0xD5 CMP zpx (R207) -/
  | cmpZpx (a : Byte)
  /-- 0xD6 DEC zpx (R212) -/
  | decZpx (a : Byte)
  /-- 0xD7 DCP zpx (R284) -/
  | dcpZpx (a : Byte)
  /-- 0xD9 CMP absy (R207) -/
  | cmpAbsy (w : Word)
  /-- 0xDB DCP absy (R284) -/
  | dcpAbsy (w : Word)
  /-- 0xDC NOP absx (R295) -/
  | nopAbsxDC (w : Word)
  /-- 0xDD CMP absx (R207) -/
  | cmpAbsx (w : Word)
  /-- 0xDE DEC absx (R212) -/
  | decAbsx (w : Word)
  /-- 0xDF DCP absx (R284) -/
  | dcpAbsx (w : Word)
  /-- 0xE0 CPX imm (R208) -/
  | cpxImm (m : Byte)
  /-- 0xE1 SBC izx (R202) -/
  | sbcIzx (q : Byte)
  /-- 0xE2 NOP imm (R295) -/
  | nopImmE2 (m : Byte)
  /-- 0xE3 ISC izx (R285) -/
  | iscIzx (q : Byte)
  /-- 0xE4 CPX zp (R208) -/
  | cpxZp (a : Byte)
  /-- 0xE5 SBC zp (R202) -/
  | sbcZp (a : Byte)
  /-- 0xE6 INC zp (R211) -/
  | incZp (a : Byte)
  /-- 0xE7 ISC zp (R285) -/
  | iscZp (a : Byte)
  /-- 0xE9 SBC imm (R202) -/
  | sbcImm (m : Byte)
  /-- 0xEB SBC imm (R294) -/
  | sbcImmEB (m : Byte)
  /-- 0xEC CPX abs (R208) -/
  | cpxAbs (w : Word)
  /-- 0xED SBC abs (R202) -/
  | sbcAbs (w : Word)
  /-- 0xEE INC abs (R211) -/
  | incAbs (w : Word)
  /-- 0xEF ISC abs (R285) -/
  | iscAbs (w : Word)
  /-- 0xF0 BEQ rel (R245) -/
  | beq (off : Byte)
  /-- 0xF1 SBC izy (R202) -/
  | sbcIzy (q : Byte)
  /-- 0xF3 ISC izy (R285) -/
  | iscIzy (q : Byte)
  /-- 0xF4 NOP zpx (R295) -/
  | nopZpxF4 (a : Byte)
  /-- 0xF5 SBC zpx (R202) -/
  | sbcZpx (a : Byte)
  /-- 0xF6 INC zpx (R211) -/
  | incZpx (a : Byte)
  /-- 0xF7 ISC zpx (R285) -/
  | iscZpx (a : Byte)
  /-- 0xF9 SBC absy (R202) -/
  | sbcAbsy (w : Word)
  /-- 0xFB ISC absy (R285) -/
  | iscAbsy (w : Word)
  /-- 0xFC NOP absx (R295) -/
  | nopAbsxFC (w : Word)
  /-- 0xFD SBC absx (R202) -/
  | sbcAbsx (w : Word)
  /-- 0xFE INC absx (R211) -/
  | incAbsx (w : Word)
  /-- 0xFF ISC absx (R285) -/
  | iscAbsx (w : Word)
  /-- 0x02 JAM imp (R303) -/
  | jam02
  /-- 0x08 PHP imp (R191) -/
  | php
  /-- 0x0A ASL acc (R231) -/
  | aslAcc
  /-- 0x12 JAM imp (R303) -/
  | jam12
  /-- 0x18 CLC imp (R260) -/
  | clc
  /-- 0x1A NOP imp (R295) -/
  | nopImp1A
  /-- 0x22 JAM imp (R303) -/
  | jam22
  /-- 0x28 PLP imp (R193) -/
  | plp
  /-- 0x2A ROL acc (R233) -/
  | rolAcc
  /-- 0x32 JAM imp (R303) -/
  | jam32
  /-- 0x38 SEC imp (R261) -/
  | sec
  /-- 0x3A NOP imp (R295) -/
  | nopImp3A
  /-- 0x40 RTI imp (R269) -/
  | rti
  /-- 0x42 JAM imp (R303) -/
  | jam42
  /-- 0x48 PHA imp (R190) -/
  | pha
  /-- 0x4A LSR acc (R232) -/
  | lsrAcc
  /-- 0x52 JAM imp (R303) -/
  | jam52
  /-- 0x58 CLI imp (R262) -/
  | cli
  /-- 0x5A NOP imp (R295) -/
  | nopImp5A
  /-- 0x60 RTS imp (R252) -/
  | rts
  /-- 0x62 JAM imp (R303) -/
  | jam62
  /-- 0x68 PLA imp (R192) -/
  | pla
  /-- 0x6A ROR acc (R234) -/
  | rorAcc
  /-- 0x72 JAM imp (R303) -/
  | jam72
  /-- 0x78 SEI imp (R263) -/
  | sei
  /-- 0x7A NOP imp (R295) -/
  | nopImp7A
  /-- 0x88 DEY imp (R216) -/
  | dey
  /-- 0x8A TXA imp (R178) -/
  | txa
  /-- 0x92 JAM imp (R303) -/
  | jam92
  /-- 0x98 TYA imp (R179) -/
  | tya
  /-- 0x9A TXS imp (R181) -/
  | txs
  /-- 0xA8 TAY imp (R177) -/
  | tay
  /-- 0xAA TAX imp (R176) -/
  | tax
  /-- 0xB2 JAM imp (R303) -/
  | jamB2
  /-- 0xB8 CLV imp (R266) -/
  | clv
  /-- 0xBA TSX imp (R180) -/
  | tsx
  /-- 0xC8 INY imp (R214) -/
  | iny
  /-- 0xCA DEX imp (R215) -/
  | dex
  /-- 0xD2 JAM imp (R303) -/
  | jamD2
  /-- 0xD8 CLD imp (R264) -/
  | cld
  /-- 0xDA NOP imp (R295) -/
  | nopImpDA
  /-- 0xE8 INX imp (R213) -/
  | inx
  /-- 0xEA NOP imp (R267) -/
  | nop
  /-- 0xF2 JAM imp (R303) -/
  | jamF2
  /-- 0xF8 SED imp (R265) -/
  | sed
  /-- 0xFA NOP imp (R295) -/
  | nopImpFA
  deriving DecidableEq, Repr

end Sys2Proof
end

