-- ==== Sys2Proof/Machine/Dispatch.lean ====
section
/-! DEFINITION. One arm per instruction: a direct call of its meaning. The state an arm starts from has the instruction's
bytes fetched (Machine/Fetch.lean). -/

namespace Sys2Proof.Machine

/-- The effect of one instruction after its fetch phase. -/
def exec (i : Instr) (s : State) : Host.Outcome State Fault Refusal :=
  match i with
  | .brk pad => Sys2Proof.Machine.execBrk pad s
  | .oraIzx q => Sys2Proof.Machine.execOraIzx q s
  | .sloIzx q => Sys2Proof.Machine.execSloIzx q s
  | .nopZp04 a => Sys2Proof.Machine.execNopZp04 a s
  | .oraZp a => Sys2Proof.Machine.execOraZp a s
  | .aslZp a => Sys2Proof.Machine.execAslZp a s
  | .sloZp a => Sys2Proof.Machine.execSloZp a s
  | .oraImm m => Sys2Proof.Machine.execOraImm m s
  | .ancImm0B m => Sys2Proof.Machine.execAncImm0B m s
  | .nopAbs w => Sys2Proof.Machine.execNopAbs w s
  | .oraAbs w => Sys2Proof.Machine.execOraAbs w s
  | .aslAbs w => Sys2Proof.Machine.execAslAbs w s
  | .sloAbs w => Sys2Proof.Machine.execSloAbs w s
  | .bpl off => Sys2Proof.Machine.execBpl off s
  | .oraIzy q => Sys2Proof.Machine.execOraIzy q s
  | .sloIzy q => Sys2Proof.Machine.execSloIzy q s
  | .nopZpx14 a => Sys2Proof.Machine.execNopZpx14 a s
  | .oraZpx a => Sys2Proof.Machine.execOraZpx a s
  | .aslZpx a => Sys2Proof.Machine.execAslZpx a s
  | .sloZpx a => Sys2Proof.Machine.execSloZpx a s
  | .oraAbsy w => Sys2Proof.Machine.execOraAbsy w s
  | .sloAbsy w => Sys2Proof.Machine.execSloAbsy w s
  | .nopAbsx1C w => Sys2Proof.Machine.execNopAbsx1C w s
  | .oraAbsx w => Sys2Proof.Machine.execOraAbsx w s
  | .aslAbsx w => Sys2Proof.Machine.execAslAbsx w s
  | .sloAbsx w => Sys2Proof.Machine.execSloAbsx w s
  | .jsr w => Sys2Proof.Machine.execJsr w s
  | .andIzx q => Sys2Proof.Machine.execAndIzx q s
  | .rlaIzx q => Sys2Proof.Machine.execRlaIzx q s
  | .bitZp a => Sys2Proof.Machine.execBitZp a s
  | .andZp a => Sys2Proof.Machine.execAndZp a s
  | .rolZp a => Sys2Proof.Machine.execRolZp a s
  | .rlaZp a => Sys2Proof.Machine.execRlaZp a s
  | .andImm m => Sys2Proof.Machine.execAndImm m s
  | .ancImm2B m => Sys2Proof.Machine.execAncImm2B m s
  | .bitAbs w => Sys2Proof.Machine.execBitAbs w s
  | .andAbs w => Sys2Proof.Machine.execAndAbs w s
  | .rolAbs w => Sys2Proof.Machine.execRolAbs w s
  | .rlaAbs w => Sys2Proof.Machine.execRlaAbs w s
  | .bmi off => Sys2Proof.Machine.execBmi off s
  | .andIzy q => Sys2Proof.Machine.execAndIzy q s
  | .rlaIzy q => Sys2Proof.Machine.execRlaIzy q s
  | .nopZpx34 a => Sys2Proof.Machine.execNopZpx34 a s
  | .andZpx a => Sys2Proof.Machine.execAndZpx a s
  | .rolZpx a => Sys2Proof.Machine.execRolZpx a s
  | .rlaZpx a => Sys2Proof.Machine.execRlaZpx a s
  | .andAbsy w => Sys2Proof.Machine.execAndAbsy w s
  | .rlaAbsy w => Sys2Proof.Machine.execRlaAbsy w s
  | .nopAbsx3C w => Sys2Proof.Machine.execNopAbsx3C w s
  | .andAbsx w => Sys2Proof.Machine.execAndAbsx w s
  | .rolAbsx w => Sys2Proof.Machine.execRolAbsx w s
  | .rlaAbsx w => Sys2Proof.Machine.execRlaAbsx w s
  | .eorIzx q => Sys2Proof.Machine.execEorIzx q s
  | .sreIzx q => Sys2Proof.Machine.execSreIzx q s
  | .nopZp44 a => Sys2Proof.Machine.execNopZp44 a s
  | .eorZp a => Sys2Proof.Machine.execEorZp a s
  | .lsrZp a => Sys2Proof.Machine.execLsrZp a s
  | .sreZp a => Sys2Proof.Machine.execSreZp a s
  | .eorImm m => Sys2Proof.Machine.execEorImm m s
  | .alrImm m => Sys2Proof.Machine.execAlrImm m s
  | .jmpAbs w => Sys2Proof.Machine.execJmpAbs w s
  | .eorAbs w => Sys2Proof.Machine.execEorAbs w s
  | .lsrAbs w => Sys2Proof.Machine.execLsrAbs w s
  | .sreAbs w => Sys2Proof.Machine.execSreAbs w s
  | .bvc off => Sys2Proof.Machine.execBvc off s
  | .eorIzy q => Sys2Proof.Machine.execEorIzy q s
  | .sreIzy q => Sys2Proof.Machine.execSreIzy q s
  | .nopZpx54 a => Sys2Proof.Machine.execNopZpx54 a s
  | .eorZpx a => Sys2Proof.Machine.execEorZpx a s
  | .lsrZpx a => Sys2Proof.Machine.execLsrZpx a s
  | .sreZpx a => Sys2Proof.Machine.execSreZpx a s
  | .eorAbsy w => Sys2Proof.Machine.execEorAbsy w s
  | .sreAbsy w => Sys2Proof.Machine.execSreAbsy w s
  | .nopAbsx5C w => Sys2Proof.Machine.execNopAbsx5C w s
  | .eorAbsx w => Sys2Proof.Machine.execEorAbsx w s
  | .lsrAbsx w => Sys2Proof.Machine.execLsrAbsx w s
  | .sreAbsx w => Sys2Proof.Machine.execSreAbsx w s
  | .adcIzx q => Sys2Proof.Machine.execAdcIzx q s
  | .rraIzx q => Sys2Proof.Machine.execRraIzx q s
  | .nopZp64 a => Sys2Proof.Machine.execNopZp64 a s
  | .adcZp a => Sys2Proof.Machine.execAdcZp a s
  | .rorZp a => Sys2Proof.Machine.execRorZp a s
  | .rraZp a => Sys2Proof.Machine.execRraZp a s
  | .adcImm m => Sys2Proof.Machine.execAdcImm m s
  | .arrImm m => Sys2Proof.Machine.execArrImm m s
  | .jmpInd w => Sys2Proof.Machine.execJmpInd w s
  | .adcAbs w => Sys2Proof.Machine.execAdcAbs w s
  | .rorAbs w => Sys2Proof.Machine.execRorAbs w s
  | .rraAbs w => Sys2Proof.Machine.execRraAbs w s
  | .bvs off => Sys2Proof.Machine.execBvs off s
  | .adcIzy q => Sys2Proof.Machine.execAdcIzy q s
  | .rraIzy q => Sys2Proof.Machine.execRraIzy q s
  | .nopZpx74 a => Sys2Proof.Machine.execNopZpx74 a s
  | .adcZpx a => Sys2Proof.Machine.execAdcZpx a s
  | .rorZpx a => Sys2Proof.Machine.execRorZpx a s
  | .rraZpx a => Sys2Proof.Machine.execRraZpx a s
  | .adcAbsy w => Sys2Proof.Machine.execAdcAbsy w s
  | .rraAbsy w => Sys2Proof.Machine.execRraAbsy w s
  | .nopAbsx7C w => Sys2Proof.Machine.execNopAbsx7C w s
  | .adcAbsx w => Sys2Proof.Machine.execAdcAbsx w s
  | .rorAbsx w => Sys2Proof.Machine.execRorAbsx w s
  | .rraAbsx w => Sys2Proof.Machine.execRraAbsx w s
  | .nopImm80 m => Sys2Proof.Machine.execNopImm80 m s
  | .staIzx q => Sys2Proof.Machine.execStaIzx q s
  | .nopImm82 m => Sys2Proof.Machine.execNopImm82 m s
  | .saxIzx q => Sys2Proof.Machine.execSaxIzx q s
  | .styZp a => Sys2Proof.Machine.execStyZp a s
  | .staZp a => Sys2Proof.Machine.execStaZp a s
  | .stxZp a => Sys2Proof.Machine.execStxZp a s
  | .saxZp a => Sys2Proof.Machine.execSaxZp a s
  | .nopImm89 m => Sys2Proof.Machine.execNopImm89 m s
  | .xaaImm m => Sys2Proof.Machine.execXaaImm m s
  | .styAbs w => Sys2Proof.Machine.execStyAbs w s
  | .staAbs w => Sys2Proof.Machine.execStaAbs w s
  | .stxAbs w => Sys2Proof.Machine.execStxAbs w s
  | .saxAbs w => Sys2Proof.Machine.execSaxAbs w s
  | .bcc off => Sys2Proof.Machine.execBcc off s
  | .staIzy q => Sys2Proof.Machine.execStaIzy q s
  | .ahxIzy q => Sys2Proof.Machine.execAhxIzy q s
  | .styZpx a => Sys2Proof.Machine.execStyZpx a s
  | .staZpx a => Sys2Proof.Machine.execStaZpx a s
  | .stxZpy a => Sys2Proof.Machine.execStxZpy a s
  | .saxZpy a => Sys2Proof.Machine.execSaxZpy a s
  | .staAbsy w => Sys2Proof.Machine.execStaAbsy w s
  | .tasAbsy w => Sys2Proof.Machine.execTasAbsy w s
  | .shyAbsx w => Sys2Proof.Machine.execShyAbsx w s
  | .staAbsx w => Sys2Proof.Machine.execStaAbsx w s
  | .shxAbsy w => Sys2Proof.Machine.execShxAbsy w s
  | .ahxAbsy w => Sys2Proof.Machine.execAhxAbsy w s
  | .ldyImm m => Sys2Proof.Machine.execLdyImm m s
  | .ldaIzx q => Sys2Proof.Machine.execLdaIzx q s
  | .ldxImm m => Sys2Proof.Machine.execLdxImm m s
  | .laxIzx q => Sys2Proof.Machine.execLaxIzx q s
  | .ldyZp a => Sys2Proof.Machine.execLdyZp a s
  | .ldaZp a => Sys2Proof.Machine.execLdaZp a s
  | .ldxZp a => Sys2Proof.Machine.execLdxZp a s
  | .laxZp a => Sys2Proof.Machine.execLaxZp a s
  | .ldaImm m => Sys2Proof.Machine.execLdaImm m s
  | .laxImm m => Sys2Proof.Machine.execLaxImm m s
  | .ldyAbs w => Sys2Proof.Machine.execLdyAbs w s
  | .ldaAbs w => Sys2Proof.Machine.execLdaAbs w s
  | .ldxAbs w => Sys2Proof.Machine.execLdxAbs w s
  | .laxAbs w => Sys2Proof.Machine.execLaxAbs w s
  | .bcs off => Sys2Proof.Machine.execBcs off s
  | .ldaIzy q => Sys2Proof.Machine.execLdaIzy q s
  | .laxIzy q => Sys2Proof.Machine.execLaxIzy q s
  | .ldyZpx a => Sys2Proof.Machine.execLdyZpx a s
  | .ldaZpx a => Sys2Proof.Machine.execLdaZpx a s
  | .ldxZpy a => Sys2Proof.Machine.execLdxZpy a s
  | .laxZpy a => Sys2Proof.Machine.execLaxZpy a s
  | .ldaAbsy w => Sys2Proof.Machine.execLdaAbsy w s
  | .lasAbsy w => Sys2Proof.Machine.execLasAbsy w s
  | .ldyAbsx w => Sys2Proof.Machine.execLdyAbsx w s
  | .ldaAbsx w => Sys2Proof.Machine.execLdaAbsx w s
  | .ldxAbsy w => Sys2Proof.Machine.execLdxAbsy w s
  | .laxAbsy w => Sys2Proof.Machine.execLaxAbsy w s
  | .cpyImm m => Sys2Proof.Machine.execCpyImm m s
  | .cmpIzx q => Sys2Proof.Machine.execCmpIzx q s
  | .nopImmC2 m => Sys2Proof.Machine.execNopImmC2 m s
  | .dcpIzx q => Sys2Proof.Machine.execDcpIzx q s
  | .cpyZp a => Sys2Proof.Machine.execCpyZp a s
  | .cmpZp a => Sys2Proof.Machine.execCmpZp a s
  | .decZp a => Sys2Proof.Machine.execDecZp a s
  | .dcpZp a => Sys2Proof.Machine.execDcpZp a s
  | .cmpImm m => Sys2Proof.Machine.execCmpImm m s
  | .axsImm m => Sys2Proof.Machine.execAxsImm m s
  | .cpyAbs w => Sys2Proof.Machine.execCpyAbs w s
  | .cmpAbs w => Sys2Proof.Machine.execCmpAbs w s
  | .decAbs w => Sys2Proof.Machine.execDecAbs w s
  | .dcpAbs w => Sys2Proof.Machine.execDcpAbs w s
  | .bne off => Sys2Proof.Machine.execBne off s
  | .cmpIzy q => Sys2Proof.Machine.execCmpIzy q s
  | .dcpIzy q => Sys2Proof.Machine.execDcpIzy q s
  | .nopZpxD4 a => Sys2Proof.Machine.execNopZpxD4 a s
  | .cmpZpx a => Sys2Proof.Machine.execCmpZpx a s
  | .decZpx a => Sys2Proof.Machine.execDecZpx a s
  | .dcpZpx a => Sys2Proof.Machine.execDcpZpx a s
  | .cmpAbsy w => Sys2Proof.Machine.execCmpAbsy w s
  | .dcpAbsy w => Sys2Proof.Machine.execDcpAbsy w s
  | .nopAbsxDC w => Sys2Proof.Machine.execNopAbsxDC w s
  | .cmpAbsx w => Sys2Proof.Machine.execCmpAbsx w s
  | .decAbsx w => Sys2Proof.Machine.execDecAbsx w s
  | .dcpAbsx w => Sys2Proof.Machine.execDcpAbsx w s
  | .cpxImm m => Sys2Proof.Machine.execCpxImm m s
  | .sbcIzx q => Sys2Proof.Machine.execSbcIzx q s
  | .nopImmE2 m => Sys2Proof.Machine.execNopImmE2 m s
  | .iscIzx q => Sys2Proof.Machine.execIscIzx q s
  | .cpxZp a => Sys2Proof.Machine.execCpxZp a s
  | .sbcZp a => Sys2Proof.Machine.execSbcZp a s
  | .incZp a => Sys2Proof.Machine.execIncZp a s
  | .iscZp a => Sys2Proof.Machine.execIscZp a s
  | .sbcImm m => Sys2Proof.Machine.execSbcImm m s
  | .sbcImmEB m => Sys2Proof.Machine.execSbcImmEB m s
  | .cpxAbs w => Sys2Proof.Machine.execCpxAbs w s
  | .sbcAbs w => Sys2Proof.Machine.execSbcAbs w s
  | .incAbs w => Sys2Proof.Machine.execIncAbs w s
  | .iscAbs w => Sys2Proof.Machine.execIscAbs w s
  | .beq off => Sys2Proof.Machine.execBeq off s
  | .sbcIzy q => Sys2Proof.Machine.execSbcIzy q s
  | .iscIzy q => Sys2Proof.Machine.execIscIzy q s
  | .nopZpxF4 a => Sys2Proof.Machine.execNopZpxF4 a s
  | .sbcZpx a => Sys2Proof.Machine.execSbcZpx a s
  | .incZpx a => Sys2Proof.Machine.execIncZpx a s
  | .iscZpx a => Sys2Proof.Machine.execIscZpx a s
  | .sbcAbsy w => Sys2Proof.Machine.execSbcAbsy w s
  | .iscAbsy w => Sys2Proof.Machine.execIscAbsy w s
  | .nopAbsxFC w => Sys2Proof.Machine.execNopAbsxFC w s
  | .sbcAbsx w => Sys2Proof.Machine.execSbcAbsx w s
  | .incAbsx w => Sys2Proof.Machine.execIncAbsx w s
  | .iscAbsx w => Sys2Proof.Machine.execIscAbsx w s
  | .jam02 => Sys2Proof.Machine.execJam02 s
  | .php => Sys2Proof.Machine.execPhp s
  | .aslAcc => Sys2Proof.Machine.execAslAcc s
  | .jam12 => Sys2Proof.Machine.execJam12 s
  | .clc => Sys2Proof.Machine.execClc s
  | .nopImp1A => Sys2Proof.Machine.execNopImp1A s
  | .jam22 => Sys2Proof.Machine.execJam22 s
  | .plp => Sys2Proof.Machine.execPlp s
  | .rolAcc => Sys2Proof.Machine.execRolAcc s
  | .jam32 => Sys2Proof.Machine.execJam32 s
  | .sec => Sys2Proof.Machine.execSec s
  | .nopImp3A => Sys2Proof.Machine.execNopImp3A s
  | .rti => Sys2Proof.Machine.execRti s
  | .jam42 => Sys2Proof.Machine.execJam42 s
  | .pha => Sys2Proof.Machine.execPha s
  | .lsrAcc => Sys2Proof.Machine.execLsrAcc s
  | .jam52 => Sys2Proof.Machine.execJam52 s
  | .cli => Sys2Proof.Machine.execCli s
  | .nopImp5A => Sys2Proof.Machine.execNopImp5A s
  | .rts => Sys2Proof.Machine.execRts s
  | .jam62 => Sys2Proof.Machine.execJam62 s
  | .pla => Sys2Proof.Machine.execPla s
  | .rorAcc => Sys2Proof.Machine.execRorAcc s
  | .jam72 => Sys2Proof.Machine.execJam72 s
  | .sei => Sys2Proof.Machine.execSei s
  | .nopImp7A => Sys2Proof.Machine.execNopImp7A s
  | .dey => Sys2Proof.Machine.execDey s
  | .txa => Sys2Proof.Machine.execTxa s
  | .jam92 => Sys2Proof.Machine.execJam92 s
  | .tya => Sys2Proof.Machine.execTya s
  | .txs => Sys2Proof.Machine.execTxs s
  | .tay => Sys2Proof.Machine.execTay s
  | .tax => Sys2Proof.Machine.execTax s
  | .jamB2 => Sys2Proof.Machine.execJamB2 s
  | .clv => Sys2Proof.Machine.execClv s
  | .tsx => Sys2Proof.Machine.execTsx s
  | .iny => Sys2Proof.Machine.execIny s
  | .dex => Sys2Proof.Machine.execDex s
  | .jamD2 => Sys2Proof.Machine.execJamD2 s
  | .cld => Sys2Proof.Machine.execCld s
  | .nopImpDA => Sys2Proof.Machine.execNopImpDA s
  | .inx => Sys2Proof.Machine.execInx s
  | .nop => Sys2Proof.Machine.execNop s
  | .jamF2 => Sys2Proof.Machine.execJamF2 s
  | .sed => Sys2Proof.Machine.execSed s
  | .nopImpFA => Sys2Proof.Machine.execNopImpFA s

end Sys2Proof.Machine
end

