-- ==== Sys2Proof/WellFormed.lean ====
section
/-! DEFINITION. Well-formedness (rule R100). Every term of `Instr` is well-formed, since its operands have exactly the
widths of Table 30-A; what can be ill-formed is a sequence of bytes: no opcode, operand bytes missing, bytes left over. -/

namespace Sys2Proof

/-- The `bytes` column of Table 30-B, a row per high nibble. -/
def lengthGrid : List (List Nat) :=
  [[2, 2, 1, 2, 2, 2, 2, 2, 1, 2, 1, 2, 3, 3, 3, 3],
   [2, 2, 1, 2, 2, 2, 2, 2, 1, 3, 1, 3, 3, 3, 3, 3],
   [3, 2, 1, 2, 2, 2, 2, 2, 1, 2, 1, 2, 3, 3, 3, 3],
   [2, 2, 1, 2, 2, 2, 2, 2, 1, 3, 1, 3, 3, 3, 3, 3],
   [1, 2, 1, 2, 2, 2, 2, 2, 1, 2, 1, 2, 3, 3, 3, 3],
   [2, 2, 1, 2, 2, 2, 2, 2, 1, 3, 1, 3, 3, 3, 3, 3],
   [1, 2, 1, 2, 2, 2, 2, 2, 1, 2, 1, 2, 3, 3, 3, 3],
   [2, 2, 1, 2, 2, 2, 2, 2, 1, 3, 1, 3, 3, 3, 3, 3],
   [2, 2, 2, 2, 2, 2, 2, 2, 1, 2, 1, 2, 3, 3, 3, 3],
   [2, 2, 1, 2, 2, 2, 2, 2, 1, 3, 1, 3, 3, 3, 3, 3],
   [2, 2, 2, 2, 2, 2, 2, 2, 1, 2, 1, 2, 3, 3, 3, 3],
   [2, 2, 1, 2, 2, 2, 2, 2, 1, 3, 1, 3, 3, 3, 3, 3],
   [2, 2, 2, 2, 2, 2, 2, 2, 1, 2, 1, 2, 3, 3, 3, 3],
   [2, 2, 1, 2, 2, 2, 2, 2, 1, 3, 1, 3, 3, 3, 3, 3],
   [2, 2, 2, 2, 2, 2, 2, 2, 1, 2, 1, 2, 3, 3, 3, 3],
   [2, 2, 1, 2, 2, 2, 2, 2, 1, 3, 1, 3, 3, 3, 3, 3]]

/-- An instruction's length in bytes, a function of the opcode byte alone (rule R100). -/
def opLength (op : Byte) : Nat := (lengthGrid.getD (op.toNat / 16) []).getD (op.toNat % 16) 1

/-- Exactly the bytes of one instruction: an opcode byte and as many operand bytes as its row of Table 30-B has. -/
def bytesWellFormed : List Byte → Bool
  | [] => false
  | op :: operands => operands.length + 1 == opLength op

end Sys2Proof
end

