-- ==== Sys2Proof/Decode.lean ====
section
/-! DEFINITION. The decoder, total on any bytes and rejecting by name, and after it the encoder (30_encoding.md Tables
30-A and 30-B, rules R100 to R107). -/

namespace Sys2Proof

/-- Table 30-B as the grid of Table 30-D, a row per high nibble of the opcode, with the operands put in: `b` the byte
after the opcode, `w` the assembled address `b2:b1`. -/
def instrGrid (b : Byte) (w : Word) : List (List Instr) :=
  [[.brk b, .oraIzx b, .jam02, .sloIzx b, .nopZp04 b, .oraZp b, .aslZp b, .sloZp b,
    .php, .oraImm b, .aslAcc, .ancImm0B b, .nopAbs w, .oraAbs w, .aslAbs w, .sloAbs w],
   [.bpl b, .oraIzy b, .jam12, .sloIzy b, .nopZpx14 b, .oraZpx b, .aslZpx b, .sloZpx b,
    .clc, .oraAbsy w, .nopImp1A, .sloAbsy w, .nopAbsx1C w, .oraAbsx w, .aslAbsx w, .sloAbsx w],
   [.jsr w, .andIzx b, .jam22, .rlaIzx b, .bitZp b, .andZp b, .rolZp b, .rlaZp b,
    .plp, .andImm b, .rolAcc, .ancImm2B b, .bitAbs w, .andAbs w, .rolAbs w, .rlaAbs w],
   [.bmi b, .andIzy b, .jam32, .rlaIzy b, .nopZpx34 b, .andZpx b, .rolZpx b, .rlaZpx b,
    .sec, .andAbsy w, .nopImp3A, .rlaAbsy w, .nopAbsx3C w, .andAbsx w, .rolAbsx w, .rlaAbsx w],
   [.rti, .eorIzx b, .jam42, .sreIzx b, .nopZp44 b, .eorZp b, .lsrZp b, .sreZp b,
    .pha, .eorImm b, .lsrAcc, .alrImm b, .jmpAbs w, .eorAbs w, .lsrAbs w, .sreAbs w],
   [.bvc b, .eorIzy b, .jam52, .sreIzy b, .nopZpx54 b, .eorZpx b, .lsrZpx b, .sreZpx b,
    .cli, .eorAbsy w, .nopImp5A, .sreAbsy w, .nopAbsx5C w, .eorAbsx w, .lsrAbsx w, .sreAbsx w],
   [.rts, .adcIzx b, .jam62, .rraIzx b, .nopZp64 b, .adcZp b, .rorZp b, .rraZp b,
    .pla, .adcImm b, .rorAcc, .arrImm b, .jmpInd w, .adcAbs w, .rorAbs w, .rraAbs w],
   [.bvs b, .adcIzy b, .jam72, .rraIzy b, .nopZpx74 b, .adcZpx b, .rorZpx b, .rraZpx b,
    .sei, .adcAbsy w, .nopImp7A, .rraAbsy w, .nopAbsx7C w, .adcAbsx w, .rorAbsx w, .rraAbsx w],
   [.nopImm80 b, .staIzx b, .nopImm82 b, .saxIzx b, .styZp b, .staZp b, .stxZp b, .saxZp b,
    .dey, .nopImm89 b, .txa, .xaaImm b, .styAbs w, .staAbs w, .stxAbs w, .saxAbs w],
   [.bcc b, .staIzy b, .jam92, .ahxIzy b, .styZpx b, .staZpx b, .stxZpy b, .saxZpy b,
    .tya, .staAbsy w, .txs, .tasAbsy w, .shyAbsx w, .staAbsx w, .shxAbsy w, .ahxAbsy w],
   [.ldyImm b, .ldaIzx b, .ldxImm b, .laxIzx b, .ldyZp b, .ldaZp b, .ldxZp b, .laxZp b,
    .tay, .ldaImm b, .tax, .laxImm b, .ldyAbs w, .ldaAbs w, .ldxAbs w, .laxAbs w],
   [.bcs b, .ldaIzy b, .jamB2, .laxIzy b, .ldyZpx b, .ldaZpx b, .ldxZpy b, .laxZpy b,
    .clv, .ldaAbsy w, .tsx, .lasAbsy w, .ldyAbsx w, .ldaAbsx w, .ldxAbsy w, .laxAbsy w],
   [.cpyImm b, .cmpIzx b, .nopImmC2 b, .dcpIzx b, .cpyZp b, .cmpZp b, .decZp b, .dcpZp b,
    .iny, .cmpImm b, .dex, .axsImm b, .cpyAbs w, .cmpAbs w, .decAbs w, .dcpAbs w],
   [.bne b, .cmpIzy b, .jamD2, .dcpIzy b, .nopZpxD4 b, .cmpZpx b, .decZpx b, .dcpZpx b,
    .cld, .cmpAbsy w, .nopImpDA, .dcpAbsy w, .nopAbsxDC w, .cmpAbsx w, .decAbsx w, .dcpAbsx w],
   [.cpxImm b, .sbcIzx b, .nopImmE2 b, .iscIzx b, .cpxZp b, .sbcZp b, .incZp b, .iscZp b,
    .inx, .sbcImm b, .nop, .sbcImmEB b, .cpxAbs w, .sbcAbs w, .incAbs w, .iscAbs w],
   [.beq b, .sbcIzy b, .jamF2, .iscIzy b, .nopZpxF4 b, .sbcZpx b, .incZpx b, .iscZpx b,
    .sed, .sbcAbsy w, .nopImpFA, .iscAbsy w, .nopAbsxFC w, .sbcAbsx w, .incAbsx w, .iscAbsx w]]

/-- The instruction of an opcode and the two bytes after it; a row uses as many of them as its length says. The default
is never reached: the grid has all 256 opcodes. -/
def instrOf (op b1 b2 : Byte) : Instr :=
  ((instrGrid b1 (mkWord b2 b1)).getD (op.toNat / 16) []).getD (op.toNat % 16) .nop

/-- Why bytes do not decode: there is no opcode, or the opcode's operand bytes are not all there. No opcode is illegal
(rule R106). -/
inductive DecodeError where
  | noOpcode
  | missingOperand (opcode : Byte)
  deriving DecidableEq, Repr

/-- Decode the instruction at the head of a list of bytes; the rest of the list comes back. -/
def decode : List Byte → Except DecodeError (Instr × List Byte)
  | [] => .error .noOpcode
  | op :: rest =>
    if rest.length + 1 < opLength op then .error (.missingOperand op)
    else .ok (instrOf op (rest.getD 0 0#8) (rest.getD 1 0#8), rest.drop (opLength op - 1))

/-- The bytes of an instruction (Tables 30-A and 30-B), low byte of an address first. -/
def encode : Instr → List Byte
  | .brk pad => [0x00#8, pad]
  | .oraIzx q => [0x01#8, q]
  | .sloIzx q => [0x03#8, q]
  | .nopZp04 a => [0x04#8, a]
  | .oraZp a => [0x05#8, a]
  | .aslZp a => [0x06#8, a]
  | .sloZp a => [0x07#8, a]
  | .oraImm m => [0x09#8, m]
  | .ancImm0B m => [0x0B#8, m]
  | .nopAbs w => [0x0C#8, lo w, hi w]
  | .oraAbs w => [0x0D#8, lo w, hi w]
  | .aslAbs w => [0x0E#8, lo w, hi w]
  | .sloAbs w => [0x0F#8, lo w, hi w]
  | .bpl off => [0x10#8, off]
  | .oraIzy q => [0x11#8, q]
  | .sloIzy q => [0x13#8, q]
  | .nopZpx14 a => [0x14#8, a]
  | .oraZpx a => [0x15#8, a]
  | .aslZpx a => [0x16#8, a]
  | .sloZpx a => [0x17#8, a]
  | .oraAbsy w => [0x19#8, lo w, hi w]
  | .sloAbsy w => [0x1B#8, lo w, hi w]
  | .nopAbsx1C w => [0x1C#8, lo w, hi w]
  | .oraAbsx w => [0x1D#8, lo w, hi w]
  | .aslAbsx w => [0x1E#8, lo w, hi w]
  | .sloAbsx w => [0x1F#8, lo w, hi w]
  | .jsr w => [0x20#8, lo w, hi w]
  | .andIzx q => [0x21#8, q]
  | .rlaIzx q => [0x23#8, q]
  | .bitZp a => [0x24#8, a]
  | .andZp a => [0x25#8, a]
  | .rolZp a => [0x26#8, a]
  | .rlaZp a => [0x27#8, a]
  | .andImm m => [0x29#8, m]
  | .ancImm2B m => [0x2B#8, m]
  | .bitAbs w => [0x2C#8, lo w, hi w]
  | .andAbs w => [0x2D#8, lo w, hi w]
  | .rolAbs w => [0x2E#8, lo w, hi w]
  | .rlaAbs w => [0x2F#8, lo w, hi w]
  | .bmi off => [0x30#8, off]
  | .andIzy q => [0x31#8, q]
  | .rlaIzy q => [0x33#8, q]
  | .nopZpx34 a => [0x34#8, a]
  | .andZpx a => [0x35#8, a]
  | .rolZpx a => [0x36#8, a]
  | .rlaZpx a => [0x37#8, a]
  | .andAbsy w => [0x39#8, lo w, hi w]
  | .rlaAbsy w => [0x3B#8, lo w, hi w]
  | .nopAbsx3C w => [0x3C#8, lo w, hi w]
  | .andAbsx w => [0x3D#8, lo w, hi w]
  | .rolAbsx w => [0x3E#8, lo w, hi w]
  | .rlaAbsx w => [0x3F#8, lo w, hi w]
  | .eorIzx q => [0x41#8, q]
  | .sreIzx q => [0x43#8, q]
  | .nopZp44 a => [0x44#8, a]
  | .eorZp a => [0x45#8, a]
  | .lsrZp a => [0x46#8, a]
  | .sreZp a => [0x47#8, a]
  | .eorImm m => [0x49#8, m]
  | .alrImm m => [0x4B#8, m]
  | .jmpAbs w => [0x4C#8, lo w, hi w]
  | .eorAbs w => [0x4D#8, lo w, hi w]
  | .lsrAbs w => [0x4E#8, lo w, hi w]
  | .sreAbs w => [0x4F#8, lo w, hi w]
  | .bvc off => [0x50#8, off]
  | .eorIzy q => [0x51#8, q]
  | .sreIzy q => [0x53#8, q]
  | .nopZpx54 a => [0x54#8, a]
  | .eorZpx a => [0x55#8, a]
  | .lsrZpx a => [0x56#8, a]
  | .sreZpx a => [0x57#8, a]
  | .eorAbsy w => [0x59#8, lo w, hi w]
  | .sreAbsy w => [0x5B#8, lo w, hi w]
  | .nopAbsx5C w => [0x5C#8, lo w, hi w]
  | .eorAbsx w => [0x5D#8, lo w, hi w]
  | .lsrAbsx w => [0x5E#8, lo w, hi w]
  | .sreAbsx w => [0x5F#8, lo w, hi w]
  | .adcIzx q => [0x61#8, q]
  | .rraIzx q => [0x63#8, q]
  | .nopZp64 a => [0x64#8, a]
  | .adcZp a => [0x65#8, a]
  | .rorZp a => [0x66#8, a]
  | .rraZp a => [0x67#8, a]
  | .adcImm m => [0x69#8, m]
  | .arrImm m => [0x6B#8, m]
  | .jmpInd w => [0x6C#8, lo w, hi w]
  | .adcAbs w => [0x6D#8, lo w, hi w]
  | .rorAbs w => [0x6E#8, lo w, hi w]
  | .rraAbs w => [0x6F#8, lo w, hi w]
  | .bvs off => [0x70#8, off]
  | .adcIzy q => [0x71#8, q]
  | .rraIzy q => [0x73#8, q]
  | .nopZpx74 a => [0x74#8, a]
  | .adcZpx a => [0x75#8, a]
  | .rorZpx a => [0x76#8, a]
  | .rraZpx a => [0x77#8, a]
  | .adcAbsy w => [0x79#8, lo w, hi w]
  | .rraAbsy w => [0x7B#8, lo w, hi w]
  | .nopAbsx7C w => [0x7C#8, lo w, hi w]
  | .adcAbsx w => [0x7D#8, lo w, hi w]
  | .rorAbsx w => [0x7E#8, lo w, hi w]
  | .rraAbsx w => [0x7F#8, lo w, hi w]
  | .nopImm80 m => [0x80#8, m]
  | .staIzx q => [0x81#8, q]
  | .nopImm82 m => [0x82#8, m]
  | .saxIzx q => [0x83#8, q]
  | .styZp a => [0x84#8, a]
  | .staZp a => [0x85#8, a]
  | .stxZp a => [0x86#8, a]
  | .saxZp a => [0x87#8, a]
  | .nopImm89 m => [0x89#8, m]
  | .xaaImm m => [0x8B#8, m]
  | .styAbs w => [0x8C#8, lo w, hi w]
  | .staAbs w => [0x8D#8, lo w, hi w]
  | .stxAbs w => [0x8E#8, lo w, hi w]
  | .saxAbs w => [0x8F#8, lo w, hi w]
  | .bcc off => [0x90#8, off]
  | .staIzy q => [0x91#8, q]
  | .ahxIzy q => [0x93#8, q]
  | .styZpx a => [0x94#8, a]
  | .staZpx a => [0x95#8, a]
  | .stxZpy a => [0x96#8, a]
  | .saxZpy a => [0x97#8, a]
  | .staAbsy w => [0x99#8, lo w, hi w]
  | .tasAbsy w => [0x9B#8, lo w, hi w]
  | .shyAbsx w => [0x9C#8, lo w, hi w]
  | .staAbsx w => [0x9D#8, lo w, hi w]
  | .shxAbsy w => [0x9E#8, lo w, hi w]
  | .ahxAbsy w => [0x9F#8, lo w, hi w]
  | .ldyImm m => [0xA0#8, m]
  | .ldaIzx q => [0xA1#8, q]
  | .ldxImm m => [0xA2#8, m]
  | .laxIzx q => [0xA3#8, q]
  | .ldyZp a => [0xA4#8, a]
  | .ldaZp a => [0xA5#8, a]
  | .ldxZp a => [0xA6#8, a]
  | .laxZp a => [0xA7#8, a]
  | .ldaImm m => [0xA9#8, m]
  | .laxImm m => [0xAB#8, m]
  | .ldyAbs w => [0xAC#8, lo w, hi w]
  | .ldaAbs w => [0xAD#8, lo w, hi w]
  | .ldxAbs w => [0xAE#8, lo w, hi w]
  | .laxAbs w => [0xAF#8, lo w, hi w]
  | .bcs off => [0xB0#8, off]
  | .ldaIzy q => [0xB1#8, q]
  | .laxIzy q => [0xB3#8, q]
  | .ldyZpx a => [0xB4#8, a]
  | .ldaZpx a => [0xB5#8, a]
  | .ldxZpy a => [0xB6#8, a]
  | .laxZpy a => [0xB7#8, a]
  | .ldaAbsy w => [0xB9#8, lo w, hi w]
  | .lasAbsy w => [0xBB#8, lo w, hi w]
  | .ldyAbsx w => [0xBC#8, lo w, hi w]
  | .ldaAbsx w => [0xBD#8, lo w, hi w]
  | .ldxAbsy w => [0xBE#8, lo w, hi w]
  | .laxAbsy w => [0xBF#8, lo w, hi w]
  | .cpyImm m => [0xC0#8, m]
  | .cmpIzx q => [0xC1#8, q]
  | .nopImmC2 m => [0xC2#8, m]
  | .dcpIzx q => [0xC3#8, q]
  | .cpyZp a => [0xC4#8, a]
  | .cmpZp a => [0xC5#8, a]
  | .decZp a => [0xC6#8, a]
  | .dcpZp a => [0xC7#8, a]
  | .cmpImm m => [0xC9#8, m]
  | .axsImm m => [0xCB#8, m]
  | .cpyAbs w => [0xCC#8, lo w, hi w]
  | .cmpAbs w => [0xCD#8, lo w, hi w]
  | .decAbs w => [0xCE#8, lo w, hi w]
  | .dcpAbs w => [0xCF#8, lo w, hi w]
  | .bne off => [0xD0#8, off]
  | .cmpIzy q => [0xD1#8, q]
  | .dcpIzy q => [0xD3#8, q]
  | .nopZpxD4 a => [0xD4#8, a]
  | .cmpZpx a => [0xD5#8, a]
  | .decZpx a => [0xD6#8, a]
  | .dcpZpx a => [0xD7#8, a]
  | .cmpAbsy w => [0xD9#8, lo w, hi w]
  | .dcpAbsy w => [0xDB#8, lo w, hi w]
  | .nopAbsxDC w => [0xDC#8, lo w, hi w]
  | .cmpAbsx w => [0xDD#8, lo w, hi w]
  | .decAbsx w => [0xDE#8, lo w, hi w]
  | .dcpAbsx w => [0xDF#8, lo w, hi w]
  | .cpxImm m => [0xE0#8, m]
  | .sbcIzx q => [0xE1#8, q]
  | .nopImmE2 m => [0xE2#8, m]
  | .iscIzx q => [0xE3#8, q]
  | .cpxZp a => [0xE4#8, a]
  | .sbcZp a => [0xE5#8, a]
  | .incZp a => [0xE6#8, a]
  | .iscZp a => [0xE7#8, a]
  | .sbcImm m => [0xE9#8, m]
  | .sbcImmEB m => [0xEB#8, m]
  | .cpxAbs w => [0xEC#8, lo w, hi w]
  | .sbcAbs w => [0xED#8, lo w, hi w]
  | .incAbs w => [0xEE#8, lo w, hi w]
  | .iscAbs w => [0xEF#8, lo w, hi w]
  | .beq off => [0xF0#8, off]
  | .sbcIzy q => [0xF1#8, q]
  | .iscIzy q => [0xF3#8, q]
  | .nopZpxF4 a => [0xF4#8, a]
  | .sbcZpx a => [0xF5#8, a]
  | .incZpx a => [0xF6#8, a]
  | .iscZpx a => [0xF7#8, a]
  | .sbcAbsy w => [0xF9#8, lo w, hi w]
  | .iscAbsy w => [0xFB#8, lo w, hi w]
  | .nopAbsxFC w => [0xFC#8, lo w, hi w]
  | .sbcAbsx w => [0xFD#8, lo w, hi w]
  | .incAbsx w => [0xFE#8, lo w, hi w]
  | .iscAbsx w => [0xFF#8, lo w, hi w]
  | .jam02 => [0x02#8]
  | .php => [0x08#8]
  | .aslAcc => [0x0A#8]
  | .jam12 => [0x12#8]
  | .clc => [0x18#8]
  | .nopImp1A => [0x1A#8]
  | .jam22 => [0x22#8]
  | .plp => [0x28#8]
  | .rolAcc => [0x2A#8]
  | .jam32 => [0x32#8]
  | .sec => [0x38#8]
  | .nopImp3A => [0x3A#8]
  | .rti => [0x40#8]
  | .jam42 => [0x42#8]
  | .pha => [0x48#8]
  | .lsrAcc => [0x4A#8]
  | .jam52 => [0x52#8]
  | .cli => [0x58#8]
  | .nopImp5A => [0x5A#8]
  | .rts => [0x60#8]
  | .jam62 => [0x62#8]
  | .pla => [0x68#8]
  | .rorAcc => [0x6A#8]
  | .jam72 => [0x72#8]
  | .sei => [0x78#8]
  | .nopImp7A => [0x7A#8]
  | .dey => [0x88#8]
  | .txa => [0x8A#8]
  | .jam92 => [0x92#8]
  | .tya => [0x98#8]
  | .txs => [0x9A#8]
  | .tay => [0xA8#8]
  | .tax => [0xAA#8]
  | .jamB2 => [0xB2#8]
  | .clv => [0xB8#8]
  | .tsx => [0xBA#8]
  | .iny => [0xC8#8]
  | .dex => [0xCA#8]
  | .jamD2 => [0xD2#8]
  | .cld => [0xD8#8]
  | .nopImpDA => [0xDA#8]
  | .inx => [0xE8#8]
  | .nop => [0xEA#8]
  | .jamF2 => [0xF2#8]
  | .sed => [0xF8#8]
  | .nopImpFA => [0xFA#8]

/-- The opcode byte of an instruction. -/
def opcodeOf (i : Instr) : Byte := (encode i).headD 0#8

/-- The opcodes of the unstable group (rules R106, R296). -/
def isUnstable (op : Byte) : Bool :=
  op == 0x8B#8 || op == 0x93#8 || op == 0x9B#8 || op == 0x9C#8 || op == 0x9E#8 || op == 0x9F#8 || op == 0xBB#8

/-- The JAM opcodes (rules R106, R303). -/
def isJam (op : Byte) : Bool :=
  op == 0x02#8 || op == 0x12#8 || op == 0x22#8 || op == 0x32#8 || op == 0x42#8 || op == 0x52#8 || op == 0x62#8 ||
    op == 0x72#8 || op == 0x92#8 || op == 0xB2#8 || op == 0xD2#8 || op == 0xF2#8

/-- Byte `k` of an instruction's bits as spec/opcode_table.json numbers them: bit 0 is the least significant bit of the
first byte, and every bit from `nbits` on is 0. -/
def tableByte (nbits w k : Nat) : Byte := BitVec.ofNat 8 (w % 2 ^ nbits / 256 ^ k)

/-- What `decode` reads from an instruction word of the table, its bytes laid out in memory order. -/
def decodeTableWord (nbits w : Nat) : Option Instr :=
  match decode [tableByte nbits w 0, tableByte nbits w 1, tableByte nbits w 2] with
  | .ok r => some r.1
  | .error _ => none

end Sys2Proof
end

