-- ==== Sys2Proof/Machine/Observe.lean ====
section
/-! DEFINITION. The bytes a program can be stored in, seen through CPU addresses: RAM (rule R66), PRG-RAM and PRG-ROM
(rules R370 to R376), without the bus. Statements about memory and the loader that `withFetchWord` stands for use it; no
instruction does. -/

namespace Sys2Proof.Machine

/-- The byte of RAM, PRG-RAM or PRG-ROM that CPU address `a` shows; none where the address belongs to a device register
or is undriven (Table 20-A). -/
def memByte (s : State) (a : Word) : Option Byte :=
  if a.toNat < 0x2000 then some (s.ram.read (a.toNat % 0x800))
  else if a.toNat < 0x4020 then none
  else s.cart.cpuRead? a.toNat

/-- Put a byte where CPU address `a` shows RAM, PRG-RAM or PRG-ROM, as a loader does. -/
def poke (a : Word) (d : Byte) (s : State) : State :=
  if a.toNat < 0x2000 then { s with ram := s.ram.write (a.toNat % 0x800) d }
  else if a.toNat < 0x8000 then { s with cart := { s.cart with prgRam := s.cart.prgRam.write (a.toNat - 0x6000) d } }
  else { s with cart := { s.cart with prg := s.cart.prg.write (s.cart.prgOffset a.toNat) d } }

end Sys2Proof.Machine
end

