-- ==== Sys2Proof/Machine/Fetch.lean ====
section
/-! DEFINITION. The fetch phase of an instruction: the bus cycles that read its opcode and operand bytes (rules R100,
R131), and the placing of an instruction where the next fetch reads it. -/

namespace Sys2Proof.Machine

/-- Whether the policies refuse an opcode (rule R296). -/
def refuses (q : Params) (op : Byte) : Bool :=
  (isUnstable op && q.unstable == .refuse) || (isJam op && q.jam == .refuse)

/-- How many operand bytes are fetched before the instruction's own cycles: all of them, but for JSR, whose third byte is
read in its cycle 6 (rule R251), and a refused opcode, which fetches none (rule R296). -/
def operandFetches (q : Params) (op : Byte) : Nat :=
  if refuses q op then 0 else if op = 0x20#8 then 1 else opLength op - 1

/-- The byte the bus would give at `a`, without an access: the part of an instruction's bytes that no fetch-phase cycle
reads is only named by it (log 23). -/
def peek (a : Word) (s : State) : Byte := (busRead a s).1

/-- The fetch phase: the instruction, and the state after the fetches, PC past the fetched bytes. -/
def fetchPhase (s : State) : Instr × State :=
  let o := fetch s
  match operandFetches o.2.params o.1 with
  | 0 => (instrOf o.1 (peek o.2.pc o.2) (peek (o.2.pc + 1#16) o.2), o.2)
  | 1 =>
    let b := fetch o.2
    (instrOf o.1 b.1 (peek b.2.pc b.2), b.2)
  | _ =>
    let b := fetch o.2
    let c := fetch b.2
    (instrOf o.1 b.1 c.1, c.2)

/-- Whether a loader can put a byte at `a`. -/
def loadable (s : State) (a : Word) : Bool := (memByte s a).isSome

/-- The state with nothing due before the next instruction: no reset request, no refused opcode, no stall, no interrupt. -/
def State.ready (s : State) : State :=
  { s with resetReq := false, coldReset := false, stuck := none, stall := 0, dma := [], nmiPending := false, irqSample := false }

/-- Where an instruction can be placed: at PC, or at 0x0200 in RAM where PC does not point into loadable memory
(log 27). -/
def placeAt (s : State) : Word :=
  if loadable s s.pc && loadable s (s.pc + 1#16) && loadable s (s.pc + 2#16) then s.pc else 0x0200#16

/-- Three bytes placed where the next step fetches its instruction, and nothing due before it. -/
def placeInstruction (s : State) (b0 b1 b2 : Byte) : State :=
  let a := placeAt s
  poke (a + 2#16) b2 (poke (a + 1#16) b1 (poke a b0 (s.ready.setPc a)))

end Sys2Proof.Machine
end

