-- ==== Sys2Proof/Machine/CpuStep.lean ====
section
/-! DEFINITION. `CpuStep()`: what runs at a step boundary (rules R320, R325 to R327, R343). -/

namespace Sys2Proof.Machine

/-- Whether the IRQ sequence is due: the sampled line with I clear (rule R325). -/
def State.irqDue (s : State) : Bool := !s.p.i && s.irqSample

/-- One step, by the priorities of rule R320: reset request; (stuck on a refused opcode: no step, rule R343); a stall
cycle; NMI; IRQ; one instruction. -/
def cpuStep (s : State) : Result :=
  if s.resetReq then .next (resetSequence s)
  else
    match s.stuck with
    | some op => .refused (.opcodeRefused op)
    | none =>
      if 0 < s.stall then .next (stallCycle s)
      else if s.nmiPending then .next (nmiSequence s)
      else if s.irqDue then .next (irqSequence s)
      else
        let f := fetchPhase s
        exec f.1 f.2

end Sys2Proof.Machine
end

