-- ==== Sys2Proof/Machine/Step.lean ====
section
/-! DEFINITION. The step of the machine and the placing of an instruction word for it. -/

namespace Sys2Proof.Machine

/-- One step of the machine (rule R320). -/
def step (s : State) : Host.Outcome State Fault Refusal := cpuStep s

/-- The state with an instruction word of spec/opcode_table.json stored where `step` fetches its next instruction, so
that the very next step runs it (logs 4 and 27). -/
def State.withFetchWord (s : State) (nbits w : Nat) : State :=
  placeInstruction s (tableByte nbits w 0) (tableByte nbits w 1) (tableByte nbits w 2)

end Sys2Proof.Machine
end

