-- ==== Sys2Proof/Machine/Console.lean ====
section
/-! DEFINITION. The host interactions of Table 60-B that act on the state (rules R345, R364, R365); power-on is
`State.powerOn`. Reading the framebuffer, the audio samples and PRG-RAM have no effect on the core. -/

namespace Sys2Proof.Machine

/-- The host requests a reset; the next step boundary takes it (rules R345, R402). -/
def requestReset (s : State) : State := { s with resetReq := true }

/-- The host's input snapshot, one byte per controller (Table 60-B, rule R363). -/
def setInput (pad1 pad2 : Byte) (s : State) : State :=
  { s with pads := { s.pads with input1 := pad1, input2 := pad2 } }

/-- The Console starts a frame: the frame-done signal is taken down (rule R364). -/
def startFrame (s : State) : State := { s with ppu := { s.ppu with frameDone := false } }

/-- Step until the PPU has signalled the end of scanline 240, at most `fuel` steps (rules R364, R365). -/
def runUntilFrame : Nat → State → Result
  | 0, s => .next s
  | fuel + 1, s =>
    if s.ppu.frameDone then .next s
    else
      match step s with
      | .next t => runUntilFrame fuel t
      | .fault r => .fault r
      | .refused r => .refused r

/-- "Run a frame" of Table 60-B with an input snapshot: 89,342 dots are never more than 30,000 steps. -/
def runFrame (pad1 pad2 : Byte) (s : State) : Result := runUntilFrame 30000 (startFrame (setInput pad1 pad2 s))

end Sys2Proof.Machine
end

