-- ==== Sys2Proof/Machine/Tables.lean ====
section
/-! DEFINITION. The spec's tables as data, written apart from the machine so that statements can hold it against them:
mnemonics and cycles of Table 30-B, the effective addresses of Table 30-A, the operand cycles of Tables 40-A and 40-B.
No instruction uses this file. -/

namespace Sys2Proof.Machine

/-- The `mnemonic` column of Table 30-B, a row per high nibble. -/
def mnemonicGrid : List (List String) :=
  [["BRK", "ORA", "JAM", "SLO", "NOP", "ORA", "ASL", "SLO", "PHP", "ORA", "ASL", "ANC", "NOP", "ORA", "ASL", "SLO"],
   ["BPL", "ORA", "JAM", "SLO", "NOP", "ORA", "ASL", "SLO", "CLC", "ORA", "NOP", "SLO", "NOP", "ORA", "ASL", "SLO"],
   ["JSR", "AND", "JAM", "RLA", "BIT", "AND", "ROL", "RLA", "PLP", "AND", "ROL", "ANC", "BIT", "AND", "ROL", "RLA"],
   ["BMI", "AND", "JAM", "RLA", "NOP", "AND", "ROL", "RLA", "SEC", "AND", "NOP", "RLA", "NOP", "AND", "ROL", "RLA"],
   ["RTI", "EOR", "JAM", "SRE", "NOP", "EOR", "LSR", "SRE", "PHA", "EOR", "LSR", "ALR", "JMP", "EOR", "LSR", "SRE"],
   ["BVC", "EOR", "JAM", "SRE", "NOP", "EOR", "LSR", "SRE", "CLI", "EOR", "NOP", "SRE", "NOP", "EOR", "LSR", "SRE"],
   ["RTS", "ADC", "JAM", "RRA", "NOP", "ADC", "ROR", "RRA", "PLA", "ADC", "ROR", "ARR", "JMP", "ADC", "ROR", "RRA"],
   ["BVS", "ADC", "JAM", "RRA", "NOP", "ADC", "ROR", "RRA", "SEI", "ADC", "NOP", "RRA", "NOP", "ADC", "ROR", "RRA"],
   ["NOP", "STA", "NOP", "SAX", "STY", "STA", "STX", "SAX", "DEY", "NOP", "TXA", "XAA", "STY", "STA", "STX", "SAX"],
   ["BCC", "STA", "JAM", "AHX", "STY", "STA", "STX", "SAX", "TYA", "STA", "TXS", "TAS", "SHY", "STA", "SHX", "AHX"],
   ["LDY", "LDA", "LDX", "LAX", "LDY", "LDA", "LDX", "LAX", "TAY", "LDA", "TAX", "LAX", "LDY", "LDA", "LDX", "LAX"],
   ["BCS", "LDA", "JAM", "LAX", "LDY", "LDA", "LDX", "LAX", "CLV", "LDA", "TSX", "LAS", "LDY", "LDA", "LDX", "LAX"],
   ["CPY", "CMP", "NOP", "DCP", "CPY", "CMP", "DEC", "DCP", "INY", "CMP", "DEX", "AXS", "CPY", "CMP", "DEC", "DCP"],
   ["BNE", "CMP", "JAM", "DCP", "NOP", "CMP", "DEC", "DCP", "CLD", "CMP", "NOP", "DCP", "NOP", "CMP", "DEC", "DCP"],
   ["CPX", "SBC", "NOP", "ISC", "CPX", "SBC", "INC", "ISC", "INX", "SBC", "NOP", "SBC", "CPX", "SBC", "INC", "ISC"],
   ["BEQ", "SBC", "JAM", "ISC", "NOP", "SBC", "INC", "ISC", "SED", "SBC", "NOP", "ISC", "NOP", "SBC", "INC", "ISC"]]

/-- The mnemonic of an opcode. -/
def mnemonicOf (op : Byte) : String := (mnemonicGrid.getD (op.toNat / 16) []).getD (op.toNat % 16) ""

/-- The `cycles` column of Table 30-B, without the penalties. -/
def cyclesGrid : List (List Nat) :=
  [[7, 6, 2, 8, 3, 3, 5, 5, 3, 2, 2, 2, 4, 4, 6, 6],
   [2, 5, 2, 8, 4, 4, 6, 6, 2, 4, 2, 7, 4, 4, 7, 7],
   [6, 6, 2, 8, 3, 3, 5, 5, 4, 2, 2, 2, 4, 4, 6, 6],
   [2, 5, 2, 8, 4, 4, 6, 6, 2, 4, 2, 7, 4, 4, 7, 7],
   [6, 6, 2, 8, 3, 3, 5, 5, 3, 2, 2, 2, 3, 4, 6, 6],
   [2, 5, 2, 8, 4, 4, 6, 6, 2, 4, 2, 7, 4, 4, 7, 7],
   [6, 6, 2, 8, 3, 3, 5, 5, 4, 2, 2, 2, 5, 4, 6, 6],
   [2, 5, 2, 8, 4, 4, 6, 6, 2, 4, 2, 7, 4, 4, 7, 7],
   [2, 6, 2, 6, 3, 3, 3, 3, 2, 2, 2, 2, 4, 4, 4, 4],
   [2, 6, 2, 6, 4, 4, 4, 4, 2, 5, 2, 5, 5, 5, 5, 5],
   [2, 6, 2, 6, 3, 3, 3, 3, 2, 2, 2, 2, 4, 4, 4, 4],
   [2, 5, 2, 5, 4, 4, 4, 4, 2, 4, 2, 4, 4, 4, 4, 4],
   [2, 6, 2, 8, 3, 3, 5, 5, 2, 2, 2, 2, 4, 4, 6, 6],
   [2, 5, 2, 8, 4, 4, 6, 6, 2, 4, 2, 7, 4, 4, 7, 7],
   [2, 6, 2, 8, 3, 3, 5, 5, 2, 2, 2, 2, 4, 4, 6, 6],
   [2, 5, 2, 8, 4, 4, 6, 6, 2, 4, 2, 7, 4, 4, 7, 7]]

/-- The base cycles of an opcode. -/
def baseCycles (op : Byte) : Nat := (cyclesGrid.getD (op.toNat / 16) []).getD (op.toNat % 16) 0

/-- The 16-bit pointer in the zero page at `q` and `q + 1` modulo 2^8 (Table 30-A). -/
def zeroPageWord (s : State) (q : Byte) : Word := mkWord (s.ram.read (q + 1#8).toNat) (s.ram.read q.toNat)

/-- The effective address of Table 30-A, from the registers and the zero page alone. -/
def tableAddr (o : Operand) (s : State) : Word :=
  match o with
  | .zp a => zext a
  | .zpx a => zext (a + s.x)
  | .zpy a => zext (a + s.y)
  | .abs w => w
  | .absx w => w + zext s.x
  | .absy w => w + zext s.y
  | .izx q => zeroPageWord s (q + s.x)
  | .izy q => zeroPageWord s q + zext s.y

/-- The base an indexed mode adds its register to, and the register; none for the modes that never cross a page (rule
R161). -/
def indexed? (o : Operand) (s : State) : Option (Word × Byte) :=
  match o with
  | .absx w => some (w, s.x)
  | .absy w => some (w, s.y)
  | .izy q => some (zeroPageWord s q, s.y)
  | _ => none

/-- Whether the low-byte sum of an indexed mode carries (rule R161). -/
def crossesPage (o : Operand) (s : State) : Bool :=
  match indexed? o s with
  | some (base, r) => decide (0x100 ≤ (lo base).toNat + r.toNat)
  | none => false

/-- The cycles of a mode between its operand bytes and its first access to EA or U (Table 40-A). -/
def addressCycles (o : Operand) : Nat :=
  match o with
  | .zp _ => 0
  | .zpx _ => 1
  | .zpy _ => 1
  | .abs _ => 0
  | .absx _ => 0
  | .absy _ => 0
  | .izx _ => 3
  | .izy _ => 2

/-- The cycles of a read-class operand after the operand bytes: one read, one more on a crossing (Table 40-A). -/
def readCycles (src : Source) (s : State) : Nat :=
  match src with
  | .imm _ => 0
  | .mem o => addressCycles o + 1 + (crossesPage o s).toNat

/-- The cycles of a write operand after the operand bytes: the unconditional read of U in the indexed modes, and the
write (Table 40-A). An RMW operand takes two more. -/
def writeCycles (o : Operand) (s : State) : Nat := addressCycles o + (indexed? o s).isSome.toNat + 1

/-- The operand of each opcode that Table 30-B marks `+p`. -/
def crossingOperand? : Instr → Option Operand
  | .oraIzy q => some (.izy q)
  | .oraAbsy w => some (.absy w)
  | .nopAbsx1C w => some (.absx w)
  | .oraAbsx w => some (.absx w)
  | .andIzy q => some (.izy q)
  | .andAbsy w => some (.absy w)
  | .nopAbsx3C w => some (.absx w)
  | .andAbsx w => some (.absx w)
  | .eorIzy q => some (.izy q)
  | .eorAbsy w => some (.absy w)
  | .nopAbsx5C w => some (.absx w)
  | .eorAbsx w => some (.absx w)
  | .adcIzy q => some (.izy q)
  | .adcAbsy w => some (.absy w)
  | .nopAbsx7C w => some (.absx w)
  | .adcAbsx w => some (.absx w)
  | .ldaIzy q => some (.izy q)
  | .laxIzy q => some (.izy q)
  | .ldaAbsy w => some (.absy w)
  | .lasAbsy w => some (.absy w)
  | .ldyAbsx w => some (.absx w)
  | .ldaAbsx w => some (.absx w)
  | .ldxAbsy w => some (.absy w)
  | .laxAbsy w => some (.absy w)
  | .cmpIzy q => some (.izy q)
  | .cmpAbsy w => some (.absy w)
  | .nopAbsxDC w => some (.absx w)
  | .cmpAbsx w => some (.absx w)
  | .sbcIzy q => some (.izy q)
  | .sbcAbsy w => some (.absy w)
  | .nopAbsxFC w => some (.absx w)
  | .sbcAbsx w => some (.absx w)
  | _ => none

/-- The condition of each branch, on the flags, and its offset (rules R243 to R250). -/
def branchCondition? (p : Flags) : Instr → Option (Bool × Byte)
  | .bcc off => some (!p.c, off)
  | .bcs off => some (p.c, off)
  | .beq off => some (p.z, off)
  | .bmi off => some (p.n, off)
  | .bne off => some (!p.z, off)
  | .bpl off => some (!p.n, off)
  | .bvc off => some (!p.v, off)
  | .bvs off => some (p.v, off)
  | _ => none

/-- The penalty cycles of Table 30-B: `+p` of an indexed read, `+t+p` of a branch whose next instruction is at `next`
(rules R104, R161, R242). -/
def penaltyCycles (i : Instr) (next : Word) (s : State) : Nat :=
  match branchCondition? s.p i with
  | some (true, off) => if hi (next + sext off) = hi next then 1 else 2
  | some (false, _) => 0
  | none =>
    match crossingOperand? i with
    | some o => (crossesPage o s).toNat
    | none => 0

end Sys2Proof.Machine
end

