-- ==== Sys2Proof/Safety.lean ====
section
/-! DEFINITION. What statements ask of states and runs: the well-formed states, the accounts of the stall counter, what
an instruction keeps, and a run that never stops. -/

namespace Sys2Proof.Machine

/-! ## Well-formed states -/

/-- MMC1 holds at most four bits between writes; MMC3's bank registers are R0 to R7 (rules R373, R376). -/
def Mapper.wf : Mapper → Bool
  | .mmc1 m => decide (m.count < 5)
  | .mmc3 m => m.banks.wf 8
  | _ => true

/-- Every memory of the cartridge is canonical and within its chip. -/
def Cart.wf (c : Cart) : Bool :=
  c.mapper.wf && c.prg.wf c.prgSize && c.prgRam.wf 0x2000 && c.chr.wf c.chrSize

/-- The PPU is at a dot of a frame (rule R354) and its memories are canonical. -/
def Ppu.wf (p : Ppu) : Bool :=
  decide (p.scanline < 262) && decide (p.dot < 341) && p.oam.wf 0x100 && p.palette.wf 0x20 && p.vram.wf 0x1000

/-- `k` PPU dots, the first numbered `n` (rule R354). -/
def Ppu.ticks (n : Nat) : Nat → Ppu → Ppu
  | 0, p => p
  | k + 1, p => (p.tick n).ticks (n + 1) k

/-- The kind of a mapper, its iNES number (rule R371). -/
def Mapper.kind : Mapper → Nat
  | .nrom => 0
  | .mmc1 _ => 1
  | .uxrom _ => 2
  | .cnrom _ => 3
  | .mmc3 _ => 4

/-- The frame counter is at one of its 4 or 5 steps (rule R359) and the register file is canonical. -/
def Apu.wf (u : Apu) : Bool := decide (u.frameStep < if u.fiveStep then 5 else 4) && u.regs.wf 0x4014

/-- A read index is at most 8 (rule R363). -/
def Pads.wf (k : Pads) : Bool := decide (k.index1 ≤ 8) && decide (k.index2 ≤ 8)

/-- Every memory of the machine is in canonical form and every bounded counter is in its range. -/
def State.wf (s : State) : Bool := s.ram.wf 0x800 && s.ppu.wf && s.apu.wf && s.pads.wf && s.cart.wf

/-- One DMA job: its alignment is 1 or 2 cycles (rule R362) and it still owes a cycle. -/
def DmaJob.wf : DmaJob → Bool
  | .oam _ align pos _ => decide (1 ≤ align) && decide (align ≤ 2) && decide (pos < align + 512)
  | .dmc _ pos => decide (pos < Config.dmcStallCycles)

/-- The stall counter is exactly what the queued DMA jobs still owe (rules R40, R321, R362, R366). -/
def State.stallAccounted (s : State) : Bool :=
  s.dma.all DmaJob.wf && decide (s.stall = (s.dma.map DmaJob.owed).sum)

/-- The latches hold the levels sampled at the end of the last cycle (rules R38, R39). -/
def State.latchesSampled (s : State) : Bool :=
  s.nmiPrev == s.ppu.nmiLine && s.irqSample == (s.apu.irq || s.cart.mapper.irq)

/-! ## What a step keeps -/

/-- Two CPU addresses that show the same byte of RAM, or are the same (rules R66, R72). -/
def sameCell (a b : Word) : Bool :=
  a == b || (decide (a.toNat < 0x2000) && decide (b.toNat < 0x2000) && a.toNat % 0x800 == b.toNat % 0x800)

/-- Every memory chip: RAM, PRG-ROM, PRG-RAM, CHR, OAM, palette, nametables. -/
def State.chips (s : State) : List Memory :=
  [s.ram, s.cart.prg, s.cart.prgRam, s.cart.chr, s.ppu.oam, s.ppu.palette, s.ppu.vram]

/-- What no instruction changes: the parameters, the host's reset request and input snapshots, and what the cartridge
is. -/
def KeepsPlatform (s t : State) : Prop :=
  t.params = s.params ∧ t.resetReq = s.resetReq ∧ t.pads.input1 = s.pads.input1 ∧ t.pads.input2 = s.pads.input2 ∧
    t.cart.prgBanks = s.cart.prgBanks ∧ t.cart.prg = s.cart.prg ∧ t.cart.chrBanks = s.cart.chrBanks ∧
    t.cart.mirroring = s.cart.mirroring ∧ t.cart.prgRamPresent = s.cart.prgRamPresent ∧
    t.cart.battery = s.cart.battery ∧ t.coldReset = s.coldReset

/-- An instruction that stores nothing keeps every byte of memory, whether seen through a chip or through a CPU
address. -/
def KeepsMemory (s t : State) : Prop :=
  t.chips = s.chips ∧ ∀ a : Word, memByte t a = memByte s a

/-- A pending NMI stays pending, and owed stall cycles stay owed (rules R38, R40). -/
def KeepsPending (s t : State) : Prop :=
  (s.nmiPending = true → t.nmiPending = true) ∧ s.stall ≤ t.stall ∧ s.dma <+: t.dma ∧ t.stuck = s.stuck

/-- The frame of an instruction that stores nothing, taking `n` cycles. -/
def StoresNothing (n : Nat) (s t : State) : Prop :=
  KeepsPlatform s t ∧ KeepsMemory s t ∧ KeepsPending s t ∧ t.cycles = s.cycles + BitVec.ofNat 64 n

/-- What storing `v` at `ea` leaves in memory. Every byte that is not the stored one reads as before, but for a bank
switch by a write at 0x8000 or above (rule R426); the chips say the rest: RAM and PRG-RAM change only where `ea` is in
them, PRG-ROM never, and the PPU's memories only through 0x2000 to 0x3FFF. -/
def StoresAt (ea : Word) (v : Byte) (s t : State) : Prop :=
  (ea.toNat < 0x8000 → ∀ a : Word, sameCell a ea = false → memByte t a = memByte s a) ∧
    (ea.toNat < 0x2000 → ∀ a : Word, sameCell a ea = true → memByte t a = some v) ∧
    (0x6000 ≤ ea.toNat → ea.toNat < 0x8000 → s.cart.prgRamPresent = true → s.cart.mapper.prgRamWritable = true →
      memByte t ea = some v) ∧
    (0x2000 ≤ ea.toNat → t.ram = s.ram) ∧
    (¬(0x6000 ≤ ea.toNat ∧ ea.toNat < 0x8000) → t.cart.prgRam = s.cart.prgRam) ∧
    (¬(0x2000 ≤ ea.toNat ∧ ea.toNat < 0x4000) →
      t.cart.chr = s.cart.chr ∧ t.ppu.oam = s.ppu.oam ∧ t.ppu.palette = s.ppu.palette ∧ t.ppu.vram = s.ppu.vram)

/-- The frame of an instruction that stores `v` at `ea`, taking `n` cycles. -/
def StoresOnly (ea : Word) (v : Byte) (n : Nat) (s t : State) : Prop :=
  KeepsPlatform s t ∧ StoresAt ea v s t ∧ KeepsPending s t ∧ t.cycles = s.cycles + BitVec.ofNat 64 n

/-- The bytes `l` pushed on the stack one after the other, and nothing else stored, in `n` cycles: the first lies at
`0x0100 | S`, each next one below it, modulo 256 (rules R70 and R194). -/
def StacksBytes (l : List Byte) (n : Nat) (s t : State) : Prop :=
  KeepsPlatform s t ∧ t.s = s.s - BitVec.ofNat 8 l.length ∧
    (∀ k : Fin l.length, memByte t (stackAddr (s.s - BitVec.ofNat 8 k.val)) = some (l.get k)) ∧
    (∀ a : Word, (∀ k : Fin l.length, sameCell a (stackAddr (s.s - BitVec.ofNat 8 k.val)) = false) →
      memByte t a = memByte s a) ∧
    t.chips.tail = s.chips.tail ∧ s.stall ≤ t.stall ∧ s.dma <+: t.dma ∧ t.stuck = s.stuck ∧
    t.cycles = s.cycles + BitVec.ofNat 64 n

/-- The machine apart from its registers: memory, devices, clock, latches, what is owed. Two states with equal `devices`
have seen the same bus accesses. -/
def State.devices (s : State) : State :=
  { s with a := 0#8, x := 0#8, y := 0#8, s := 0#8, pc := 0#16, p := ⟨false, false, false, false, false, false⟩ }

/-- The byte a read-modify-write instruction reads (rule R151). -/
def modifiedByte (o : Operand) (s : State) : Byte := (memRead (writeAddress o s).1 (writeAddress o s).2).1

/-- The bus accesses of a read-modify-write instruction that stores `v`: the address phase, the read, the old byte
written back, `v` written (rule R151). -/
def modifyAccesses (o : Operand) (v : Byte) (s : State) : State :=
  let ea := (writeAddress o s).1
  memWrite ea v (memWrite ea (modifiedByte o s) (memRead ea (writeAddress o s).2).2)

/-! ## What an instruction of each access class does -/

/-- The registers in the order A, X, Y, S, PC, P. -/
abbrev Regs := Byte × Byte × Byte × Byte × Word × Flags

/-- The registers of a state. -/
def State.regs (s : State) : Regs := (s.a, s.x, s.y, s.s, s.pc, s.p)

/-- The byte `ReadOperand()` gives (rule R150). -/
def operandByte (src : Source) (s : State) : Byte := (readOperand src s).1

/-- A read-class instruction completes with the registers `r`, after exactly the bus accesses of `ReadOperand()` (rule
R150), in the cycles of Table 40-A, having stored nothing. -/
def Reads (i : Instr) (src : Source) (s : State) (r : Regs) : Prop :=
  ∃ t, exec i s = .next t ∧ t.regs = r ∧ t.devices = (readOperand src s).2.devices ∧
    StoresNothing (readCycles src s) s t

/-- A write-class instruction completes with its registers as before, after exactly the bus accesses of
`WriteOperand(v)` (rule R151), having stored `v` at the effective address of Table 30-A and nothing else. -/
def Writes (i : Instr) (o : Operand) (s : State) (v : Byte) : Prop :=
  ∃ t, exec i s = .next t ∧ t.regs = s.regs ∧ t.devices = (writeOperand o v s).devices ∧
    StoresOnly (tableAddr o s) v (writeCycles o s) s t

/-- A read-modify-write instruction completes with the registers `r`, after exactly the bus accesses of
`ModifyOperand(f)` for a new byte `v` (rule R151), having stored `v` at the effective address and nothing else. -/
def Modifies (i : Instr) (o : Operand) (s : State) (v : Byte) (r : Regs) : Prop :=
  ∃ t, exec i s = .next t ∧ t.regs = r ∧ t.devices = (modifyAccesses o v s).devices ∧
    StoresOnly (tableAddr o s) v (writeCycles o s + 2) s t

/-- An implied or accumulator instruction completes with the registers `r`, after one dummy read at PC (rule R132),
having stored nothing. -/
def Implied (i : Instr) (s : State) (r : Regs) : Prop :=
  ∃ t, exec i s = .next t ∧ t.regs = r ∧ t.devices = (dummyRead s.pc s).devices ∧ StoresNothing 1 s t

/-- The byte of the stack page at `0x0100 | (S + k)`, S + k modulo 256 (rule R70). -/
def stackByte (s : State) (k : Byte) : Byte := s.ram.read (stackAddr (s.s + k)).toNat

/-- The 16-bit word a vector shows, low byte at `vec`, where both its addresses show memory (rule R74). -/
def VectorShows (s : State) (vec w : Word) : Prop :=
  memByte s vec = some (lo w) ∧ memByte s (vec + 1#16) = some (hi w)

/-- One access of the CPU to the bus: a read of an address, or a write of a byte to it (rules R61, R62, R64). -/
inductive Access
  | read (a : Word)
  | write (a : Word) (d : Byte)
  deriving DecidableEq, Repr

/-- A bus cycle with one access (rules R11, R322). -/
def Access.cycle : Access → State → State
  | .read a, s => (memRead a s).2
  | .write a d, s => memWrite a d s

/-- The accesses of `l`, one bus cycle each, in order. -/
def accesses (l : List Access) (s : State) : State := l.foldl (fun t x => x.cycle t) s

/-- `n` fetches: `n` bus reads at PC, each followed by `PC <- PC + 1` (rule R131). -/
def fetchMany : Nat → State → State
  | 0, s => s
  | n + 1, s => fetchMany n (fetch s).2

/-- The values of `n` bus reads at `a`, one after the other, and the state after them. -/
def readMany (a : Word) : Nat → State → List Byte × State
  | 0, s => ([], s)
  | n + 1, s =>
    let r := busRead a s
    let q := readMany a n r.2
    (r.1 :: q.1, q.2)

/-- Bus writes of the bytes of `l` at `a`, one after the other, with no cycle between them. -/
def writeMany (a : Word) (l : List Byte) (s : State) : State := l.foldl (fun t d => busWrite a d t) s

/-- The 8-bit adder as rule R200 describes it in words: the result modulo 2^8, C the carry out of the unsigned sum, V
"the signed sum lies outside -128 to 127", N and Z of the result, the other flags as in `p`. -/
def adder (a b : Byte) (cin : Bool) (p : Flags) : Byte × Flags :=
  let r := a + b + BitVec.ofNat 8 cin.toNat
  let signed := a.toInt + b.toInt + (cin.toNat : Int)
  (r, { p with
    c := decide (0x100 ≤ a.toNat + b.toNat + cin.toNat)
    v := decide (signed < -128 ∨ 127 < signed)
    n := r.getLsbD 7
    z := r == 0#8 })

/-- N and Z of a byte, the other flags as in `p` (rule R13). -/
def flagsNZ (v : Byte) (p : Flags) : Flags := { p with n := v.getLsbD 7, z := v == 0#8 }

/-- N, Z and C of a comparison of `r` with `m`, the other flags as in `p` (rule R206). -/
def flagsCompare (r m : Byte) (p : Flags) : Flags := flagsNZ (r - m) { p with c := decide (m.toNat ≤ r.toNat) }

/-! ## Runs -/

/-- Nothing but the next instruction is due at this boundary (rule R320). -/
def State.atInstruction (s : State) : Bool :=
  !s.resetReq && s.stuck.isNone && decide (s.stall = 0) && !s.nmiPending && !s.irqDue

/-- Both policies at their default (rule R296). -/
def State.policiesNop (s : State) : Bool := s.params.unstable == .nop && s.params.jam == .nop

/-- A safe run: `n` steps from `s`, none of which stops. -/
def SafeRun (n : Nat) (s : State) : Prop := ∃ t, Host.Core.run Sys2Proof.core n s = .next t

end Sys2Proof.Machine
end

