-- ==== Sys2Proof/Certificates/Slice0/Obligations.lean ====
section
/-! DEFINITION. The statements for the provers, one per definition `Obligations.<Name>`; OBLIGATIONS.json lists them. Each
says what the spec's rules say of the machine of this package. -/

open Sys2Proof Sys2Proof.Machine

/-- For every instruction, with every operand value, and every list of bytes after it, decoding its encoding
followed by those bytes gives the instruction and leaves exactly those bytes (Tables 30-A and 30-B). -/
def Obligations.DecodeUndoesEncode : Prop :=
  ∀ (i : Instr) (rest : List Byte), decode (encode i ++ rest) = .ok (i, rest)

/-- Whatever bytes decode to an instruction, with a rest left over, are the encoding of that instruction followed
by the rest: every encoding has one meaning and no bit of it is dropped. -/
def Obligations.EncodeUndoesDecode : Prop :=
  ∀ (bytes rest : List Byte) (i : Instr), decode bytes = .ok (i, rest) → encode i ++ rest = bytes

/-- Every opcode byte, with at least as many bytes after it as its row of Table 30-B has operand bytes, decodes to
an instruction with that opcode, and the decoder takes exactly those bytes; the length is 1, 2 or 3 and depends on
the opcode alone; with fewer bytes the decoder says that operand bytes are missing, and with none that there is no
opcode. No opcode is refused. -/
def Obligations.DecodingIsTotal : Prop :=
  (∀ (op : Byte) (rest : List Byte), opLength op ≤ rest.length + 1 →
      ∃ i, decode (op :: rest) = .ok (i, rest.drop (opLength op - 1)) ∧ opcodeOf i = op ∧
        encode i = op :: rest.take (opLength op - 1)) ∧
    (∀ op : Byte, opLength op = 1 ∨ opLength op = 2 ∨ opLength op = 3) ∧
    (∀ (op : Byte) (rest : List Byte), rest.length + 1 < opLength op →
      decode (op :: rest) = .error (.missingOperand op)) ∧
    decode [] = .error .noOpcode

/-- One word of each family, written out byte by byte from Tables 30-A and 30-B (opcode, then the operand bytes,
low byte of an address first), decodes to the instruction it stands for and leaves no byte. -/
def Obligations.WrittenWordsDecode : Prop :=
  ∀ p ∈ [
      ([0xA9#8, 0x34#8], Instr.ldaImm 0x34#8),
      ([0x8D#8, 0x34#8, 0x12#8], Instr.staAbs 0x1234#16),
      ([0xAA#8], Instr.tax),
      ([0x48#8], Instr.pha),
      ([0x7D#8, 0x34#8, 0x12#8], Instr.adcAbsx 0x1234#16),
      ([0x24#8, 0x34#8], Instr.bitZp 0x34#8),
      ([0xE6#8, 0x34#8], Instr.incZp 0x34#8),
      ([0x6A#8], Instr.rorAcc),
      ([0x6C#8, 0x34#8, 0x12#8], Instr.jmpInd 0x1234#16),
      ([0xD0#8, 0x34#8], Instr.bne 0x34#8),
      ([0x20#8, 0x34#8, 0x12#8], Instr.jsr 0x1234#16),
      ([0x00#8, 0x34#8], Instr.brk 0x34#8),
      ([0x40#8], Instr.rti),
      ([0xB3#8, 0x34#8], Instr.laxIzy 0x34#8),
      ([0xCB#8, 0x34#8], Instr.axsImm 0x34#8),
      ([0x04#8, 0x34#8], Instr.nopZp04 0x34#8),
      ([0x9F#8, 0x34#8, 0x12#8], Instr.ahxAbsy 0x1234#16),
      ([0x12#8], Instr.jam12)],
    decode p.1 = .ok (p.2, [])

/-- When nothing else is due and the bytes at PC are the encoding of an instruction (not one a policy refuses),
step is exec of that instruction in the state after its opcode and operand bytes have been fetched: one bus read
each at PC, PC advanced by one each (JSR's third byte is read later, in its own cycle 6, so two bytes are fetched);
the fetches change no other register, store nothing and take one cycle each. -/
def Obligations.StepRunsDecodedInstruction : Prop :=
  ∀ (s : State) (i : Instr), s.atInstruction = true → refuses s.params (opcodeOf i) = false →
    (∀ (k : Nat) (h : k < (encode i).length), memByte s (s.pc + BitVec.ofNat 16 k) = some (encode i)[k]) →
    let n := if opcodeOf i = 0x20#8 then 2 else (encode i).length
    let f := fetchMany n s
    step s = exec i f ∧ f.regs = (s.a, s.x, s.y, s.s, s.pc + BitVec.ofNat 16 n, s.p) ∧ StoresNothing n s f

/-- The step serves a reset request first, whatever else is due; else one owed stall cycle; else a pending NMI,
whatever I is; else the sampled IRQ when I is 0; else it fetches and executes one instruction (a core stuck on a
refused opcode takes no step until a reset is requested). The poll reads I as it stands at the boundary. -/
def Obligations.StepFollowsPriorities : Prop :=
  ∀ s : State,
    (s.resetReq = true → step s = .next (resetSequence s)) ∧
    (s.resetReq = false → s.stuck = none →
      (0 < s.stall → step s = .next (stallCycle s)) ∧
      (s.stall = 0 →
        (s.nmiPending = true → step s = .next (nmiSequence s)) ∧
        (s.nmiPending = false →
          (s.irqSample = true → s.p.i = false → step s = .next (irqSequence s)) ∧
          (s.irqSample = false ∨ s.p.i = true → step s = exec (fetchPhase s).1 (fetchPhase s).2))))

/-- The state after reset has S = 0xFD, I = 1, PC from the reset vector, 7 cycles counted since power-on, nothing
pending and no stall owed, PPUCTRL and PPUMASK 0, and the PPU 21 dots into its first frame (7 cycles); and it is
well-formed (its memory canonical: a clause about the model's own representation, logs 2 and 4). -/
def Obligations.ResetStateIsTableTenB : Prop :=
  State.reset.s = 0xFD#8 ∧ State.reset.p.i = true ∧ VectorShows State.reset 0xFFFC#16 State.reset.pc ∧
    State.reset.cycles = 7#64 ∧ State.reset.nmiPending = false ∧ State.reset.stall = 0 ∧
    State.reset.resetReq = false ∧ State.reset.ppu.ctrl = 0#8 ∧ State.reset.ppu.mask = 0#8 ∧
    State.reset.ppu.scanline = 0 ∧ State.reset.ppu.dot = 3 * 7 ∧ State.reset.wf = true

/-- When a reset is requested the step, from any state of the core (stuck on a refused opcode too), leaves S = 0xFD
and I = 1, keeps A, X, Y, N, V, D, Z, C and RAM, takes 7 cycles, clears the request, leaves the stuck state and
owes no stall cycle (no DMA transfer either: the queue is the model's, log 24). Its accesses are reads alone: twice
PC, then 0x0100, 0x01FF, 0x01FE, 0xFFFC, 0xFFFD. At power-on, or with the default DEVICE_RESET, they start from a
machine changed only in the request, the pending NMI, the owed stall and the stuck mark; nothing is written to any
memory, PC comes from the reset vector, and with NMI disabled at the PPU no NMI is pending. (That power-on is
marked by coldReset, which the sequence clears, and that the parameter does not act there, is log 6; that a DMC
request within the sequence is dropped, log 24.) -/
def Obligations.ResetSequenceSetsSIAndPc : Prop :=
  ∀ s : State, s.resetReq = true → ∃ t, step s = .next t ∧
    t.a = s.a ∧ t.x = s.x ∧ t.y = s.y ∧ t.s = 0xFD#8 ∧ t.p = { s.p with i := true } ∧
    t.cycles = s.cycles + 7#64 ∧ t.resetReq = false ∧ t.stuck = none ∧ t.params = s.params ∧
    t.coldReset = false ∧ t.ram = s.ram ∧ t.stall = 0 ∧ t.dma = [] ∧
    t.devices = (accesses [.read s.pc, .read s.pc, .read 0x0100#16, .read 0x01FF#16, .read 0x01FE#16,
      .read 0xFFFC#16, .read 0xFFFD#16] (resetStart s)).dropStall.devices ∧
    (s.coldReset = true ∨ s.params.deviceReset = .nothing →
      resetStart s =
        { s with resetReq := false, coldReset := false, nmiPending := false, stall := 0, dma := [], stuck := none } ∧
      KeepsMemory s t ∧ (∀ w, VectorShows s 0xFFFC#16 w → t.pc = w) ∧
      (s.ppu.ctrl.getLsbD 7 = false → t.nmiPending = false))

/-- When the IRQ is due the step pushes the high byte of PC, its low byte and the image of P with B = 0 at
descending stack addresses, sets I after the push, keeps A, X, Y and the other flags, stores nothing else, takes 7
cycles, and loads PC from 0xFFFE, or from 0xFFFA if an NMI is pending after cycle 4, which is thereby consumed. Its
accesses are two reads at PC, the three writes, and the reads of the two bytes of the vector. -/
def Obligations.IrqEntrySavesPcAndStatus : Prop :=
  ∀ s : State, s.wf = true → s.resetReq = false → s.stuck = none → s.stall = 0 → s.nmiPending = false →
    s.irqSample = true → s.p.i = false →
    let afterCycle4 := accesses [.read s.pc, .read s.pc, .write (stackAddr s.s) (hi s.pc),
      .write (stackAddr (s.s - 1#8)) (lo s.pc)] s
    let vec := if afterCycle4.nmiPending then 0xFFFA#16 else 0xFFFE#16
    ∃ t, step s = .next t ∧ t.a = s.a ∧ t.x = s.x ∧ t.y = s.y ∧ t.p = { s.p with i := true } ∧
      StacksBytes [hi s.pc, lo s.pc, s.p.pack false] 7 s t ∧
      t.devices = (accesses [.write (stackAddr (s.s - 2#8)) (s.p.pack false), .read vec, .read (vec + 1#16)]
        { afterCycle4 with nmiPending := false }).devices ∧
      ∀ w, VectorShows s vec w → t.pc = w

/-- When an NMI is pending the step, whatever I is, pushes PC (high byte first) and the image of P with B = 0, sets
I, keeps everything else, takes 7 cycles and loads PC from 0xFFFA: an NMI sequence is never hijacked. The pending
NMI is consumed: with NMI disabled at the PPU none is pending afterwards. Its accesses are two reads at PC, the
three writes, and the reads of 0xFFFA and 0xFFFB, with the latch cleared before them. -/
def Obligations.NmiEntrySavesPcAndStatus : Prop :=
  ∀ s : State, s.wf = true → s.resetReq = false → s.stuck = none → s.stall = 0 → s.nmiPending = true →
    ∃ t, step s = .next t ∧ t.a = s.a ∧ t.x = s.x ∧ t.y = s.y ∧ t.p = { s.p with i := true } ∧
      StacksBytes [hi s.pc, lo s.pc, s.p.pack false] 7 s t ∧
      t.devices = (accesses [.read s.pc, .read s.pc, .write (stackAddr s.s) (hi s.pc),
        .write (stackAddr (s.s - 1#8)) (lo s.pc), .write (stackAddr (s.s - 2#8)) (s.p.pack false), .read 0xFFFA#16,
        .read 0xFFFB#16] { s with nmiPending := false }).devices ∧
      (∀ w, VectorShows s 0xFFFA#16 w → t.pc = w) ∧
      (s.ppu.ctrl.getLsbD 7 = false → t.nmiPending = false)

/-- BRK, with PC past its padding byte, pushes PC (high byte first) and the image of P with B = 1, sets I, keeps A,
X, Y and the other flags (D too), stores nothing else, takes 5 cycles after its two fetches, ignores I, and loads
PC from 0xFFFE, or from 0xFFFA if an NMI is pending after the two pushes of PC, which is thereby consumed. Its
accesses are the three writes and the reads of the two bytes of the vector. -/
def Obligations.BrkEntersWithBSet : Prop :=
  ∀ (s : State) (pad : Byte), s.wf = true →
    let afterCycle4 := accesses [.write (stackAddr s.s) (hi s.pc), .write (stackAddr (s.s - 1#8)) (lo s.pc)] s
    let vec := if afterCycle4.nmiPending then 0xFFFA#16 else 0xFFFE#16
    opcodeOf (.brk pad) = 0x00#8 ∧
    ∃ t, exec (.brk pad) s = .next t ∧ t.a = s.a ∧ t.x = s.x ∧ t.y = s.y ∧ t.p = { s.p with i := true } ∧
      StacksBytes [hi s.pc, lo s.pc, s.p.pack true] 5 s t ∧
      t.devices = (accesses [.write (stackAddr (s.s - 2#8)) (s.p.pack true), .read vec, .read (vec + 1#16)]
        { afterCycle4 with nmiPending := false }).devices ∧
      ∀ w, VectorShows s vec w → t.pc = w

/-- In a BRK (pushed B = 1) or IRQ (pushed B = 0) entry the vector is chosen after the two pushes of PC: the NMI
vector if an NMI is pending then, which is thereby consumed. The pushed image keeps the B of the BRK or IRQ. After
the sequence an NMI is pending exactly when a rising edge of the NMI line was sampled in one of cycles 5 to 7. -/
def Obligations.HijackTakesNmiVectorOnce : Prop :=
  ∀ (s : State) (b : Bool), s.wf = true →
    let u := pushPc s
    let vec := if u.nmiPending then 0xFFFA#16 else 0xFFFE#16
    let c5 := push (s.p.pack b) { u with nmiPending := false }
    let c6 := (memRead vec { c5 with p := { s.p with i := true } }).2
    let c7 := (memRead (vec + 1#16) c6).2
    let t := enterInterrupt b s
    (∀ pad, exec (.brk pad) s = .next (enterInterrupt true s)) ∧
      irqSequence s = enterInterrupt false (dummyRead s.pc (dummyRead s.pc s)) ∧
      t.p = { s.p with i := true } ∧ memByte t (stackAddr (s.s - 2#8)) = some (s.p.pack b) ∧
      (∀ w, VectorShows s vec w → t.pc = w) ∧
      t.nmiPending = ((c5.nmiPrev && !u.nmiPrev) || (c6.nmiPrev && !c5.nmiPrev) || (c7.nmiPrev && !c6.nmiPrev))

/-- RTI pulls the image of P (bits 7, 6, 3, 2, 1, 0; bits 5 and 4 ignored) and then PC, low byte first, without
adding one; S goes up by 3 modulo 2^8; A, X, Y and memory are unchanged; it takes 5 cycles after its opcode fetch:
reads at PC, at 0x0100 | S, and of the three bytes. -/
def Obligations.RtiRestoresFlagsAndPc : Prop :=
  ∀ s : State, let v := stackByte s 1#8
    opcodeOf .rti = 0x40#8 ∧
    ∃ t, exec .rti s = .next t ∧
      t.regs = (s.a, s.x, s.y, s.s + 3#8, mkWord (stackByte s 3#8) (stackByte s 2#8),
        { n := v.getLsbD 7, v := v.getLsbD 6, d := v.getLsbD 3, i := v.getLsbD 2, z := v.getLsbD 1,
          c := v.getLsbD 0 }) ∧
      t.devices = (accesses [.read s.pc, .read (stackAddr s.s), .read (stackAddr (s.s + 1#8)),
        .read (stackAddr (s.s + 2#8)), .read (stackAddr (s.s + 3#8))] s).devices ∧
      StoresNothing 5 s t

/-- With stall cycles owed and no reset requested the step changes no register, takes one cycle, owes one stall
cycle less (plus 4 if the DMC requests a sample in it), keeps every byte the CPU can see of RAM, PRG-ROM and
PRG-RAM, keeps CHR, palette and nametables, keeps a pending NMI, and with no DMA transfer queued leaves the
open-bus latch alone (no bus access). -/
def Obligations.StallCycleOnlyStalls : Prop :=
  ∀ s : State, s.resetReq = false → s.stuck = none → 0 < s.stall → ∃ t, step s = .next t ∧
    t.regs = s.regs ∧ t.cycles = s.cycles + 1#64 ∧
    t.stall = s.stall - 1 + (if s.apu.dmcRequests s.free then 4 else 0) ∧
    KeepsPlatform s t ∧ (∀ a, memByte t a = memByte s a) ∧ t.ram = s.ram ∧ t.cart.prgRam = s.cart.prgRam ∧
    t.cart.chr = s.cart.chr ∧ t.ppu.palette = s.ppu.palette ∧ t.ppu.vram = s.ppu.vram ∧
    (s.nmiPending = true → t.nmiPending = true) ∧ (s.dma = [] → t.openBus = s.openBus)

/-- Every bus write of d to 0x4014, stamped w, adds 513 + (w mod 2) stall cycles and queues one OAM DMA of page d,
with its 1 + (w mod 2) alignment cycles, behind whatever is owed; it changes nothing else but the open-bus latch,
and a write anywhere else queues none. With no DMC active, STA starts the one of page A; INC of 0x4014 writes twice
and starts two, 1027 stall cycles in all, the first of the page it read, the second of that page plus 1. -/
def Obligations.WriteTo4014StartsOamDma : Prop :=
  ∀ s : State,
    (∀ d : Byte, busWrite 0x4014#16 d s = { s with
      stall := s.stall + (513 + s.cycles.toNat % 2)
      dma := s.dma ++ [.oam d (1 + s.cycles.toNat % 2) 0 0#8]
      openBus := d }) ∧
    (∀ (a : Word) (d : Byte), a ≠ 0x4014#16 → (busWrite a d s).stall = s.stall ∧ (busWrite a d s).dma = s.dma) ∧
    (s.apu.dmcActive = false →
      (∃ t, exec (.staAbs 0x4014#16) s = .next t ∧ t.stall = s.stall + 513 + s.cycles.toNat % 2 ∧
        t.dma = s.dma ++ [.oam s.a (1 + s.cycles.toNat % 2) 0 0#8]) ∧
      (∃ t, exec (.incAbs 0x4014#16) s = .next t ∧ t.stall = s.stall + 1027 ∧
        t.dma = s.dma ++ [.oam s.openBus (1 + (s.cycles.toNat + 1) % 2) 0 0#8,
          .oam (s.openBus + 1#8) (1 + s.cycles.toNat % 2) 0 0#8]))

/-- With one OAM DMA queued and nothing else owed or active, the next N steps (N = 513 or 514: its alignment plus
512) are stall cycles that copy the 256 bytes of its page, where the page shows memory, to OAM at OAMADDR + i
modulo 256, in order; after them no stall cycle is owed, N cycles have been counted, the registers and every byte
the CPU sees are unchanged, and the open-bus latch holds the last byte. (That OAM stores all 8 bits is log 17, the
queue log 24.) -/
def Obligations.OamDmaCopiesPage : Prop :=
  ∀ (s : State) (page : Byte) (align : Nat) (latch : Byte) (bytes : Byte → Byte), s.wf = true →
    s.resetReq = false → s.stuck = none → s.apu.dmcActive = false → 1 ≤ align → align ≤ 2 →
    s.dma = [.oam page align 0 latch] → s.stall = align + 512 →
    (∀ i, memByte s (mkWord page i) = some (bytes i)) →
    ∃ t, Host.Core.run Sys2Proof.core (align + 512) s = .next t ∧
      t.stall = 0 ∧ t.dma = [] ∧ t.cycles = s.cycles + BitVec.ofNat 64 (align + 512) ∧ t.regs = s.regs ∧
      (∀ a, memByte t a = memByte s a) ∧ t.openBus = bytes 0xFF#8 ∧
      ∀ i : Byte, t.ppu.oam.read (s.ppu.oamAddr + i).toNat = bytes i

/-- With one DMC sample fetch queued and nothing else owed or active, the next four steps are stall cycles: the
first three leave the open-bus latch alone, the fourth reads the fetch's address, so that the latch and the DMC's
sample buffer hold the byte there; then nothing is owed, four cycles have been counted and no register has changed. -/
def Obligations.DmcFetchReadsOnce : Prop :=
  ∀ (s : State) (addr : Word) (b : Byte), s.resetReq = false → s.stuck = none → s.apu.dmcActive = false →
    s.dma = [.dmc addr 0] → s.stall = 4 → memByte s addr = some b →
    (∃ t, Host.Core.run Sys2Proof.core 3 s = .next t ∧ t.openBus = s.openBus) ∧
    ∃ t, Host.Core.run Sys2Proof.core 4 s = .next t ∧ t.stall = 0 ∧ t.dma = [] ∧
      t.cycles = s.cycles + 4#64 ∧ t.regs = s.regs ∧ t.openBus = b ∧ t.apu.dmcBuffer = b

/-- From any dot of scanline 0 the dots run through 262 scanlines of 341 dots in order; the next frame has the
other parity and begins at dot 0, or at dot 1 if it is odd and rendering is enabled (PPUMASK bit 3 or 4 as it
stands at the wrap: log 31): a frame has 89,342 dots, or 89,341 with the skipped one. A dot sets the vblank flag at
dot 1 of scanline 241 (unless the race has cancelled it), clears it at dot 1 of scanline 261 and leaves it alone
elsewhere; the NMI line is the flag and PPUCTRL bit 7; a write of PPUCTRL with bit 7 set while the flag stays set
and the line was low makes an NMI pending in that cycle; a read of PPUSTATUS in the cycle whose dots would set the
flag returns bit 7 = 0, and after the cycle the flag is clear and no NMI has become pending (the race is carried by
the mark cancelVblank: log 22). -/
def Obligations.DotsDriveVblankAndNmi : Prop :=
  (∀ (p : Ppu) (n k : Nat), p.scanline = 0 → p.dot < 341 →
      let whole := 262 * 341 - p.dot
      let q := p.ticks n k
      let next := p.ticks n whole
      (k < whole → q.scanline = (p.dot + k) / 341 ∧ q.dot = (p.dot + k) % 341 ∧ q.oddFrame = p.oddFrame) ∧
      next.scanline = 0 ∧ next.oddFrame = !p.oddFrame ∧
      next.dot = if next.oddFrame && (p.mask.getLsbD 3 || p.mask.getLsbD 4) then 1 else 0) ∧
    (∀ (p : Ppu) (n : Nat),
      (p.tick n).vblank =
        if p.scanline = 241 ∧ p.dot = 1 then !p.cancelVblank
        else if p.scanline = 261 ∧ p.dot = 1 then false else p.vblank) ∧
    (∀ p : Ppu, p.nmiLine = (p.vblank && p.ctrl.getLsbD 7)) ∧
    (∀ (s : State) (a : Word) (d : Byte), 0x2000 ≤ a.toNat → a.toNat < 0x4000 → a.toNat % 8 = 0 →
      s.ppu.vblank = true → s.ppu.cancelVblank = false → s.nmiPrev = false → d.getLsbD 7 = true →
      s.ppu.scanline < 260 ∨ (s.ppu.scanline = 260 ∧ s.ppu.dot < 340) → (memWrite a d s).nmiPending = true) ∧
    (∀ (s : State) (a : Word), 0x2000 ≤ a.toNat → a.toNat < 0x4000 → a.toNat % 8 = 2 →
      s.ppu.vblankSetThisCycle = true → (memRead a s).1.getLsbD 7 = false ∧
        (memRead a s).2.ppu.vblank = false ∧ (memRead a s).2.nmiPending = s.nmiPending)

/-- A bus read of 0x2002 or any mirror returns vblank (0 in the cycle of the race), sprite-0 hit and overflow in
bits 7 to 5 and the open-bus latch in bits 4 to 0, then clears vblank and w and changes no other PPU state but the
mark of the race (cancelVblank, of the model alone: log 22); a second read has bit 7 clear; a write clears w and
changes nothing else of the PPU. -/
def Obligations.PpuStatusReadClearsVblankAndW : Prop :=
  ∀ (s : State) (a : Word) (d : Byte), 0x2000 ≤ a.toNat → a.toNat < 0x4000 → a.toNat % 8 = 2 →
    let r := busRead a s
    (r.1.getLsbD 7 = (s.ppu.vblank && !s.ppu.vblankSetThisCycle) ∧ r.1.getLsbD 6 = s.ppu.spriteZero ∧
      r.1.getLsbD 5 = s.ppu.overflow ∧ ∀ k < 5, r.1.getLsbD k = s.openBus.getLsbD k) ∧
    r.2.ppu = { s.ppu with
      vblank := false, w := false, cancelVblank := s.ppu.cancelVblank || s.ppu.vblankSetThisCycle } ∧
    (busRead a r.2).1.getLsbD 7 = false ∧
    busWrite a d s = { s with ppu := { s.ppu with w := false }, openBus := d }

/-- With d the written byte: 0x2000 puts d[1:0] into t[11:10]; 0x2001 sets PPUMASK and 0x2003 OAMADDR; 0x2004
stores at OAM[OAMADDR] and adds 1 to OAMADDR modulo 2^8, and reads OAM[OAMADDR], changing only the latch; 0x2005
with w = 0 puts d[7:3] into t[4:0], d[2:0] into x and sets w; with w = 1 puts d[2:0] into t[14:12], d[7:3] into
t[9:5] and clears w; 0x2006 with w = 0 puts d[5:0] into t[13:8], 0 into t[14] and sets w; with w = 1 puts d into
t[7:0], t into v and clears w; nothing else of the PPU, and outside it only the latch, changes. The same holds at
every mirror. (All 8 bits of an OAM byte are kept: log 17.) -/
def Obligations.PpuRegisterWritesSetTheirFields : Prop :=
  ∀ (s : State) (a : Word) (d : Byte), 0x2000 ≤ a.toNat → a.toNat < 0x4000 →
    let p := s.ppu
    let q := (busWrite a d s).ppu
    (a.toNat % 8 ≠ 7 → busWrite a d s = { s with ppu := q, openBus := d }) ∧
    (a.toNat % 8 = 1 → q = { p with mask := d }) ∧
    (a.toNat % 8 = 3 → q = { p with oamAddr := d }) ∧
    (a.toNat % 8 = 4 → q = { p with oam := q.oam, oamAddr := p.oamAddr + 1#8 } ∧
      (s.wf = true → ∀ i : Byte, q.oam.read i.toNat = if i = p.oamAddr then d else p.oam.read i.toNat) ∧
      busRead a s = (p.oam.read p.oamAddr.toNat, { s with openBus := p.oam.read p.oamAddr.toNat })) ∧
    (a.toNat % 8 = 0 → q = { p with ctrl := d, t := q.t } ∧
      ∀ k < 15, q.t.getLsbD k = if 10 ≤ k ∧ k ≤ 11 then d.getLsbD (k - 10) else p.t.getLsbD k) ∧
    (a.toNat % 8 = 5 → p.w = false → q = { p with t := q.t, fineX := q.fineX, w := true } ∧
      (∀ k < 3, q.fineX.getLsbD k = d.getLsbD k) ∧
      ∀ k < 15, q.t.getLsbD k = if k ≤ 4 then d.getLsbD (k + 3) else p.t.getLsbD k) ∧
    (a.toNat % 8 = 5 → p.w = true → q = { p with t := q.t, w := false } ∧
      ∀ k < 15, q.t.getLsbD k =
        if 12 ≤ k then d.getLsbD (k - 12) else if 5 ≤ k ∧ k ≤ 9 then d.getLsbD (k - 2) else p.t.getLsbD k) ∧
    (a.toNat % 8 = 6 → p.w = false → q = { p with t := q.t, w := true } ∧
      ∀ k < 15, q.t.getLsbD k =
        if k = 14 then false else if 8 ≤ k then d.getLsbD (k - 8) else p.t.getLsbD k) ∧
    (a.toNat % 8 = 6 → p.w = true → q = { p with t := q.t, v := q.t, w := false } ∧
      ∀ k < 15, q.t.getLsbD k = if k ≤ 7 then d.getLsbD k else p.t.getLsbD k)

/-- A bus read of 0x2007 or a mirror with v modulo 2^14 below 0x3F00 returns the buffer and loads it with the
PPU-bus byte at v (pattern byte of the mapper or nametable byte); at 0x3F00 and above it returns the palette byte
and loads the buffer with the nametable byte at v - 0x1000; a write below 0x2000 reaches CHR-RAM only, from 0x2000
the nametables, from 0x3F00 the palette. After each, v goes up by 1, or by 32 with PPUCTRL bit 2, modulo 2^15. (The
nametable fold of each mirroring mode is the model's, log 16.) -/
def Obligations.PpuDataIsBufferedAndAdvancesV : Prop :=
  ∀ (s : State) (a : Word) (d : Byte), 0x2000 ≤ a.toNat → a.toNat < 0x4000 → a.toNat % 8 = 7 →
    let p := s.ppu
    let v := p.v.toNat % 0x4000
    let next := p.v + (if p.ctrl.getLsbD 2 then 32#15 else 1#15)
    (v < 0x2000 → (busRead a s).1 = p.buffer ∧
      (busRead a s).2.ppu = { p with buffer := s.cart.chr.read (s.cart.chrOffset v), v := next }) ∧
    (0x2000 ≤ v → v < 0x3F00 → (busRead a s).1 = p.buffer ∧
      (busRead a s).2.ppu = { p with buffer := p.vram.read (vramOffset s.cart.mirror v), v := next }) ∧
    (0x3F00 ≤ v → (busRead a s).1 = p.palette.read (paletteIndex v) ∧
      (busRead a s).2.ppu =
        { p with buffer := p.vram.read (vramOffset s.cart.mirror (v - 0x1000)), v := next }) ∧
    (v < 0x2000 → (busWrite a d s).ppu = { p with v := next } ∧
      (busWrite a d s).cart.chr =
        if s.cart.chrBanks = 0 then s.cart.chr.write (s.cart.chrOffset v) d else s.cart.chr) ∧
    (0x2000 ≤ v → (busWrite a d s).cart = s.cart) ∧
    (0x2000 ≤ v → v < 0x3F00 → (busWrite a d s).ppu =
      { p with vram := p.vram.write (vramOffset s.cart.mirror v) d, v := next }) ∧
    (0x3F00 ≤ v → (busWrite a d s).ppu = { p with palette := p.palette.write (paletteIndex v) d, v := next })

/-- A byte written through PPUDATA at a palette address reads back, once v points to any palette address with the
same folded index (32 bytes repeated, 0x10, 0x14, 0x18 and 0x1C being 0x00, 0x04, 0x08 and 0x0C), as that byte; a
palette address with another index reads as before. So 0x3F10 and 0x3F00 show the same byte. (That a palette byte
keeps all its 8 bits is log 17.) -/
def Obligations.PaletteMirrorsReadBack : Prop :=
  ∀ (s : State) (d : Byte) (x y : BitVec 15), s.wf = true → 0x3F00 ≤ x.toNat % 0x4000 → 0x3F00 ≤ y.toNat % 0x4000 →
    let fold (v : BitVec 15) : Nat := if v.toNat % 4 = 0 then v.toNat % 0x10 else v.toNat % 0x20
    let at' (v : BitVec 15) (t : State) : State := { t with ppu := { t.ppu with v := v } }
    let t := busWrite 0x2007#16 d (at' x s)
    (busRead 0x2007#16 (at' y t)).1 = if fold x = fold y then d else (busRead 0x2007#16 (at' y s)).1

/-- After a write of 0x4016 with bit 0 set and one with bit 0 clear, the k-th read of 0x4016 (controller 1) or
0x4017 (controller 2) returns bit k of that controller's input snapshot for k below 8 (A, B, Select, Start, Up,
Down, Left, Right) and 1 from then on, in bit 0, with the open-bus bits 7 to 5 above; while the strobe is held
every read returns button A; reads of one port do not move the other. -/
def Obligations.ControllersShiftOutEightButtons : Prop :=
  ∀ (s : State) (d1 d0 : Byte) (n : Nat), d1.getLsbD 0 = true → d0.getLsbD 0 = false →
    let value (ob : Byte) (b : Bool) : Byte := (ob &&& 0xE0#8) ||| BitVec.ofNat 8 b.toNat
    let shifted (v : Byte) : List Byte :=
      (List.range n).map fun k => value d0 (if k < 8 then v.getLsbD k else true)
    let t := writeMany 0x4016#16 [d1, d0] s
    let held := writeMany 0x4016#16 [d1] s
    (readMany 0x4016#16 n t).1 = shifted s.pads.input1 ∧
      (readMany 0x4017#16 n t).1 = shifted s.pads.input2 ∧
      (readMany 0x4016#16 n t).2.pads.index2 = 0 ∧ (readMany 0x4017#16 n t).2.pads.index1 = 0 ∧
      (readMany 0x4016#16 n held).1 = List.replicate n (value d1 (s.pads.input1.getLsbD 0)) ∧
      (readMany 0x4017#16 n held).1 = List.replicate n (value d1 (s.pads.input2.getLsbD 0))

/-- A bus read of 0x4015 returns in bits 0 to 3 whether each length counter is nonzero, bit 4 whether the DMC is
active, bit 5 the open-bus bit, bit 6 the frame IRQ and bit 7 the DMC IRQ; it clears the frame IRQ flag and changes
nothing else of the APU. Reads of 0x4000 to 0x4014 return the open-bus latch and change nothing. Writes of 0x4000
to 0x4013, 0x4015 and 0x4017 change the APU and the latch only; the channel registers keep their bytes. A write of
0x4003, 0x4007, 0x400B or 0x400F with its channel enabled loads that length counter from the table entry (a free
value, log 8) of bits 7 to 3, no other channel write changes a length, and one of 0x4010 with bit 7 clear clears
the DMC IRQ; nothing else of the APU changes. A write of 0x4015 keeps bits 4 to 0 as the enable bits, clears the
lengths of disabled channels and keeps the others, starts or stops the DMC as bit 4 says and clears the DMC IRQ,
and nothing else of the APU changes; so a read of 0x4015 after it shows the bits 0 to 3 of before where enabled and
else 0, the new bit 4, and 0 in bit 7 (the length and DMC bits are the family's: logs 10 and 11). -/
def Obligations.ApuRegistersReadAndWrite : Prop :=
  ∀ s : State,
    let r := busRead 0x4015#16 s
    r.1.getLsbD 0 = (s.apu.lenPulse1 != 0#8) ∧ r.1.getLsbD 1 = (s.apu.lenPulse2 != 0#8) ∧
      r.1.getLsbD 2 = (s.apu.lenTriangle != 0#8) ∧ r.1.getLsbD 3 = (s.apu.lenNoise != 0#8) ∧
      r.1.getLsbD 4 = s.apu.dmcActive ∧ r.1.getLsbD 5 = s.openBus.getLsbD 5 ∧
      r.1.getLsbD 6 = s.apu.frameIrq ∧ r.1.getLsbD 7 = s.apu.dmcIrq ∧
      r.2 = { s with apu := { s.apu with frameIrq := false }, openBus := r.1 } ∧
      (∀ a : Word, 0x4000 ≤ a.toNat → a.toNat ≤ 0x4014 → busRead a s = (s.openBus, s)) ∧
      ∀ (a : Word) (d : Byte),
        let t := busWrite a d s
        let q := busRead 0x4015#16 t
        ((0x4000 ≤ a.toNat ∧ a.toNat ≤ 0x4013) ∨ a = 0x4015#16 ∨ a = 0x4017#16 →
          t = { s with apu := t.apu, openBus := d }) ∧
        (0x4000 ≤ a.toNat → a.toNat ≤ 0x4013 →
          let length (k : Nat) (old : Byte) : Byte :=
            if a.toNat = 0x4003 + 4 * k ∧ s.apu.enable.getLsbD k = true then Config.lengthTable (d.extractLsb' 3 5)
            else old
          t.apu = { s.apu with
            regs := s.apu.regs.write a.toNat d
            lenPulse1 := length 0 s.apu.lenPulse1
            lenPulse2 := length 1 s.apu.lenPulse2
            lenTriangle := length 2 s.apu.lenTriangle
            lenNoise := length 3 s.apu.lenNoise
            dmcIrq := s.apu.dmcIrq && !(a == 0x4010#16 && !d.getLsbD 7) }) ∧
        (a = 0x4015#16 →
          let kept (k : Nat) (old : Byte) : Byte := if d.getLsbD k then old else 0#8
          t.apu = { s.apu with
            enable := t.apu.enable
            lenPulse1 := kept 0 s.apu.lenPulse1
            lenPulse2 := kept 1 s.apu.lenPulse2
            lenTriangle := kept 2 s.apu.lenTriangle
            lenNoise := kept 3 s.apu.lenNoise
            dmcActive := d.getLsbD 4
            dmcIrq := false } ∧
          (∀ k < 8, t.apu.enable.getLsbD k = (decide (k < 5) && d.getLsbD k)) ∧
          (∀ k < 4, q.1.getLsbD k = (d.getLsbD k && r.1.getLsbD k)) ∧ q.1.getLsbD 4 = d.getLsbD 4 ∧
            q.1.getLsbD 6 = r.1.getLsbD 6 ∧ q.1.getLsbD 7 = false)

/-- In a cycle in which the frame counter is due (APU_TIMING, a free value: log 8) it advances to the next of its 4
steps, 5 in 5-step mode, and from the last to step 0; in any other cycle it stays. Due at step 3 of 4-step mode
with the inhibit flag clear, the frame IRQ flag becomes set; it is never set in 5-step mode or with the inhibit
flag set, and no APU cycle clears it. Due at steps 1 and 3 (0 and 2 in 5-step mode) it clocks the lengths, each
down by 1 unless 0 or halted (the halt bits: log 10); else they are unchanged. A write of 0x4017 sets the mode and
the inhibit flag, puts the counter at step 0 (log 9), with bit 6 set clears the flag, and with bit 7 set clocks the
lengths at once. An active DMC that requests the last byte of a sample that does not loop (0x4010 bit 6 clear)
becomes inactive, and raises its IRQ if 0x4010 bit 7 is set; no APU cycle clears that IRQ, a write of 0x4015 does,
and so does one of 0x4010 with bit 7 clear, no other channel write (the DMC's bits, and that its end is at the
request, are the model's: log 11; when it requests and ends is free: log 8). Nothing else of the APU changes. The
sampled IRQ line is the or of the three sources. -/
def Obligations.ApuIrqsAreLevels : Prop :=
  let clocked (u : Apu) : Apu :=
    let down (reg bit : Nat) (k : Byte) : Byte :=
      if (u.regs.read reg).getLsbD bit = true ∨ k = 0#8 then k else k - 1#8
    { u with
      lenPulse1 := down 0x4000 5 u.lenPulse1
      lenPulse2 := down 0x4004 5 u.lenPulse2
      lenTriangle := down 0x4008 7 u.lenTriangle
      lenNoise := down 0x400C 5 u.lenNoise }
  (∀ (u : Apu) (n : Nat),
      let due := Config.frameStepDue n
      let clocks : Bool :=
        if u.fiveStep then u.frameStep == 0 || u.frameStep == 2 else u.frameStep == 1 || u.frameStep == 3
      let ends := u.dmcActive && Config.dmcFetchDue n && Config.dmcSampleEnds n && !(u.regs.read 0x4010).getLsbD 6
      u.tick n = { (if due && clocks then clocked u else u) with
        frameStep :=
          if due then if u.frameStep + 1 < (if u.fiveStep then 5 else 4) then u.frameStep + 1 else 0 else u.frameStep
        frameIrq := u.frameIrq || (due && !u.fiveStep && !u.irqInhibit && u.frameStep == 3)
        dmcActive := u.dmcActive && !ends
        dmcIrq := u.dmcIrq || (ends && (u.regs.read 0x4010).getLsbD 7) }) ∧
    (∀ (s : State) (a : Word) (d : Byte), 0x4000 ≤ a.toNat → a.toNat ≤ 0x4015 → (busWrite a d s).apu.dmcIrq =
      (s.apu.dmcIrq && !decide (a = 0x4015#16 ∨ (a = 0x4010#16 ∧ d.getLsbD 7 = false)))) ∧
    (∀ (s : State) (d : Byte), (busWrite 0x4017#16 d s).apu =
      { (if d.getLsbD 7 then clocked s.apu else s.apu) with
        fiveStep := d.getLsbD 7
        irqInhibit := d.getLsbD 6
        frameStep := 0
        frameIrq := s.apu.frameIrq && !d.getLsbD 6 }) ∧
    (∀ s : State, (endCycle s).irqSample =
      ((endCycle s).apu.frameIrq || (endCycle s).apu.dmcIrq || (endCycle s).cart.mapper.irq))

/-- Every bus read leaves its result, and every bus write its byte, in the open-bus latch. A read that no device
drives (write-only PPU registers, 0x4000 to 0x4014, 0x4018 to 0x401F, 0x4020 to 0x5FFF, 0x6000 to 0x7FFF without
PRG-RAM) returns the latch and changes nothing; a write at 0x4018 to 0x401F changes only the latch. A byte written
at a RAM address reads back at every address below 0x2000 with the same low 11 bits, every other RAM byte is
unchanged, and RAM accesses change nothing but the byte and the latch. -/
def Obligations.OpenBusAndRamMirrors : Prop :=
  ∀ (s : State) (a b : Word) (d : Byte),
    (busRead a s).2.openBus = (busRead a s).1 ∧ (busWrite a d s).openBus = d ∧
    ((0x2000 ≤ a.toNat ∧ a.toNat < 0x4000 ∧ a.toNat % 8 ∈ [0, 1, 3, 5, 6]) ∨
        (0x4000 ≤ a.toNat ∧ a.toNat ≤ 0x4014) ∨ (0x4018 ≤ a.toNat ∧ a.toNat < 0x6000) ∨
        (0x6000 ≤ a.toNat ∧ a.toNat < 0x8000 ∧ s.cart.prgRamPresent = false) →
      busRead a s = (s.openBus, s)) ∧
    (0x4018 ≤ a.toNat → a.toNat < 0x4020 → busWrite a d s = { s with openBus := d }) ∧
    (a.toNat < 0x2000 →
      busRead a s = (s.ram.read (a.toNat % 0x800), { s with openBus := s.ram.read (a.toNat % 0x800) })) ∧
    (a.toNat < 0x2000 → b.toNat < 0x2000 → s.wf = true →
      (busRead b (busWrite a d s)).1 = (if a.toNat % 0x800 = b.toNat % 0x800 then d else (busRead b s).1) ∧
      { busWrite a d s with ram := s.ram, openBus := s.openBus } = s)

/-- At power-on the cartridge is as loaded with its mapper registers at their power-on values (MMC1: PRG mode 3,
the rest 0; UxROM and CNROM bank 0; MMC3: all 0, no IRQ), and 0xE000 to 0xFFFF show the end of PRG-ROM (with NROM
or CNROM of 1 or 2 banks). With NROM or CNROM a read at 0x8000 to 0xFFFF gives PRG[(a - 0x8000) mod size] and a
write of NROM changes nothing; with UxROM a write of d at 0x8000 or above selects bank d modulo the number of 16
KiB banks at 0x8000 to 0xBFFF while 0xC000 to 0xFFFF always shows the last bank; with CNROM it selects the 8 KiB
CHR bank d[1:0] (modulo the CHR size: the model's choice, log 21). No write changes PRG-ROM. -/
def Obligations.BanksAtPowerOnAndAfterWrites : Prop :=
  (∀ (q : PowerOn) (c : Cart),
      let p := State.powerOn q c
      p.cart = { c with mapper := p.cart.mapper } ∧ (c.mapper = .nrom → p.cart.mapper = .nrom) ∧
      (∀ m, c.mapper = .mmc1 m → p.cart.mapper = .mmc1
        { shift := 0#5, count := 0, control := 0b01100#5, chr0 := 0#5, chr1 := 0#5, prg := 0#5, lastWrite := none }) ∧
      (∀ k, c.mapper = .uxrom k → p.cart.mapper = .uxrom 0#8) ∧
      (∀ k, c.mapper = .cnrom k → p.cart.mapper = .cnrom 0#2) ∧
      (∀ m, c.mapper = .mmc3 m → p.cart.mapper = .mmc3
        { select := 0#8, banks := [], horizontal := false, protect := 0#8, latch := 0#8, counter := 0#8,
          reload := false, enabled := false, pending := false, a12 := false }) ∧
      (0 < c.prgBanks → (c.mapper = .nrom ∨ (∃ k, c.mapper = .cnrom k) → c.prgBanks ≤ 2) →
        ∀ a : Word, 0xE000 ≤ a.toNat →
          (busRead a p).1 = c.prg.read (c.prgBanks * 0x4000 - (0x10000 - a.toNat)))) ∧
    ∀ (s : State) (a w : Word) (d : Byte), 0x8000 ≤ a.toNat → 0x8000 ≤ w.toNat → 0 < s.cart.prgBanks →
      let n := s.cart.prgBanks
      let t := busWrite w d s
      t.cart.prg = s.cart.prg ∧
      (s.cart.mapper = .nrom → t = { s with openBus := d } ∧
        (busRead a s).1 = s.cart.prg.read ((a.toNat - 0x8000) % (n * 0x4000))) ∧
      (∀ k, s.cart.mapper = .uxrom k →
        (a.toNat < 0xC000 → (busRead a t).1 = s.cart.prg.read (d.toNat % n * 0x4000 + (a.toNat - 0x8000))) ∧
        (0xC000 ≤ a.toNat → (busRead a t).1 = s.cart.prg.read ((n - 1) * 0x4000 + (a.toNat - 0xC000)))) ∧
      (∀ k, s.cart.mapper = .cnrom k →
        (busRead a t).1 = s.cart.prg.read ((a.toNat - 0x8000) % (n * 0x4000)) ∧
        ∀ j, j < 0x2000 → t.cart.ppuRead j = s.cart.chr.read ((d.toNat % 4 * 0x2000 + j) % s.cart.chrSize))

/-- From an empty shift register, five writes with bit 7 clear at 0x8000 to 0xFFFF, none of them one cycle after
the one before, put their bits 0, first write lowest, into the register that bits 14 and 13 of the last address
select (control, CHR0, CHR1, PRG), leave the other registers and an empty shift register; a write with bit 7 set
empties the shift register and forces PRG mode 3; a write stamped one cycle after the previous write to the
cartridge range changes no register and is itself the previous write from then on (log 20). The control register's
PRG mode selects 32 KiB (bit 0 of the bank ignored), the first bank fixed at 0x8000, or the last fixed at 0xC000;
its bit 4 one 8 KiB or two 4 KiB CHR banks (in 8 KiB mode bit 0 of the register is ignored: log 20); its bits 1:0
the mirroring; bank numbers are modulo the banks there are (log 21). -/
def Obligations.Mmc1RegistersSelectBanks : Prop :=
  ∀ (m : Mmc1) (a : Nat) (d : Byte) (t0 : BitVec 64),
    (∀ (w : Fin 5 → Byte) (b : Fin 5 → Nat) (st : Fin 5 → BitVec 64), m.count = 0 → m.shift = 0#5 →
      m.lastWrite ≠ some (st 0 - 1#64) → (∀ k : Fin 4, st k.castSucc ≠ st k.succ - 1#64) →
      (∀ k, (w k).getLsbD 7 = false) → (∀ k, 0x8000 ≤ b k ∧ b k < 0x10000) →
      let r := (List.finRange 5).foldl (fun q k => q.cpuWrite (b k) (w k) (st k)) m
      let v := BitVec.ofNat 5 ((List.finRange 5).map fun k => (w k).toNat % 2 * 2 ^ k.val).sum
      r.count = 0 ∧ r.shift = 0#5 ∧
        (r.control, r.chr0, r.chr1, r.prg) =
          if b 4 < 0xA000 then (v, m.chr0, m.chr1, m.prg)
          else if b 4 < 0xC000 then (m.control, v, m.chr1, m.prg)
          else if b 4 < 0xE000 then (m.control, m.chr0, v, m.prg)
          else (m.control, m.chr0, m.chr1, v)) ∧
    (0x8000 ≤ a → m.lastWrite ≠ some (t0 - 1#64) → d.getLsbD 7 = true →
      m.cpuWrite a d t0 =
        { m with shift := 0#5, count := 0, control := m.control ||| 0x0C#5, lastWrite := some t0 }) ∧
    (m.lastWrite = some (t0 - 1#64) → m.cpuWrite a d t0 = { m with lastWrite := some t0 }) ∧
    (∀ (s : State) (e : Word), s.cart.mapper = .mmc1 m → 0 < s.cart.prgBanks → 0x8000 ≤ e.toNat →
      let mode := m.control.toNat / 4 % 4
      let bank :=
        if mode < 2 then m.prg.toNat / 2 * 2 + (e.toNat - 0x8000) / 0x4000
        else if e.toNat < 0xC000 then if mode = 2 then 0 else m.prg.toNat
        else if mode = 2 then m.prg.toNat else s.cart.prgBanks - 1
      (busRead e s).1 = s.cart.prg.read (bank % s.cart.prgBanks * 0x4000 + e.toNat % 0x4000)) ∧
    ∀ c : Cart, c.mapper = .mmc1 m →
      c.mirror = [.oneLower, .oneUpper, .vertical, .horizontal].getD (m.control.toNat % 4) .horizontal ∧
      ∀ j, j < 0x2000 →
        let offset :=
          if m.control.getLsbD 4 then (if j < 0x1000 then m.chr0 else m.chr1).toNat * 0x1000 + j % 0x1000
          else m.chr0.toNat / 2 * 0x2000 + j
        c.ppuRead j = c.chr.read (offset % c.chrSize)

/-- On a rising edge of the sampled A12 level MMC3 loads its counter from the latch if it is 0 or a reload is
requested (clearing the request), else decrements it; if it is then 0 with IRQ enabled the IRQ becomes pending;
without an edge only the sampled level changes (the once-a-dot sampling is the model's filter, log 15). Each
cycle's end samples the level in each of its three dots, before the dot runs: bit 12 of v, or a free value on a
visible or pre-render scanline with rendering enabled (logs 14 and 15); other mappers keep their registers. A
pending IRQ drives the mapper's IRQ output until an even write at 0xE000 to 0xFFFF, which disables and acknowledges
it; an odd one enables it; 0xC000 even sets the latch, odd requests the reload; 0x8000 even sets the bank select,
odd the register it names; 0xA000 even sets the mirroring (four-screen boards keep theirs: log 16), odd the PRG-RAM
protection (bit 6 denies writes: log 19). The map of the banks R0 to R7 to PRG and CHR addresses with select bits 6
and 7 is the family's (log 18), but for the last 8 KiB at 0xE000; bank numbers are modulo the banks there are (log
21). -/
def Obligations.Mmc3RegistersAndCounter : Prop :=
  ∀ (m : Mmc3) (level : Bool) (a : Nat) (d : Byte) (stamp : BitVec 64),
    let next := if m.counter = 0#8 ∨ m.reload = true then m.latch else m.counter - 1#8
    (level = true → m.a12 = false → m.sampleA12 level =
      { m with counter := next, reload := false, a12 := true, pending := m.pending || (m.enabled && next == 0#8) }) ∧
    (level = false ∨ m.a12 = true → m.sampleA12 level = { m with a12 := level }) ∧
    (∀ s : State,
      let level (k : Nat) : Bool :=
        let p := s.ppu.ticks (3 * s.free) k
        let fetches := (decide (p.scanline < 240) || p.scanline == 261) && (p.mask.getLsbD 3 || p.mask.getLsbD 4)
        if fetches then Config.renderA12 (3 * s.free + k) else p.v.getLsbD 12
      (endCycle s).ppu = s.ppu.ticks (3 * s.free) 3 ∧
      (s.cart.mapper = .mmc3 m → (endCycle s).cart =
        { s.cart with mapper := .mmc3 (((m.sampleA12 (level 0)).sampleA12 (level 1)).sampleA12 (level 2)) }) ∧
      (s.cart.mapper.kind ≠ 4 → (endCycle s).cart = s.cart)) ∧
    (Mapper.mmc3 m).irq = m.pending ∧
    (0xE000 ≤ a → a % 2 = 0 →
      (Mapper.mmc3 m).cpuWrite a d stamp = .mmc3 { m with enabled := false, pending := false }) ∧
    (0xE000 ≤ a → a % 2 = 1 → (Mapper.mmc3 m).cpuWrite a d stamp = .mmc3 { m with enabled := true }) ∧
    (0xC000 ≤ a → a < 0xE000 → a % 2 = 0 → (Mapper.mmc3 m).cpuWrite a d stamp = .mmc3 { m with latch := d }) ∧
    (0xC000 ≤ a → a < 0xE000 → a % 2 = 1 → (Mapper.mmc3 m).cpuWrite a d stamp = .mmc3 { m with reload := true }) ∧
    (a < 0x8000 → (Mapper.mmc3 m).cpuWrite a d stamp = .mmc3 m) ∧
    (0x8000 ≤ a → a < 0xA000 → a % 2 = 0 → (Mapper.mmc3 m).cpuWrite a d stamp = .mmc3 { m with select := d }) ∧
    (0x8000 ≤ a → a < 0xA000 → a % 2 = 1 → (Mapper.mmc3 m).cpuWrite a d stamp =
      .mmc3 { m with banks := m.banks.write (m.select &&& 0x07#8).toNat d }) ∧
    (0xA000 ≤ a → a < 0xC000 → a % 2 = 0 →
      (Mapper.mmc3 m).cpuWrite a d stamp = .mmc3 { m with horizontal := d.getLsbD 0 }) ∧
    (0xA000 ≤ a → a < 0xC000 → a % 2 = 1 →
      (Mapper.mmc3 m).cpuWrite a d stamp = .mmc3 { m with protect := d }) ∧
    let r (k : Nat) := (m.banks.read k).toNat
    (∀ (s : State) (e : Word), s.cart.mapper = .mmc3 m → 0 < s.cart.prgBanks → 0x8000 ≤ e.toNat →
      let banks := 2 * s.cart.prgBanks
      let slots := if m.select.getLsbD 6 then [banks - 2, r 7, r 6, banks - 1] else [r 6, r 7, banks - 2, banks - 1]
      (busRead e s).1 =
        s.cart.prg.read (slots.getD ((e.toNat - 0x8000) / 0x2000) 0 % banks * 0x2000 + e.toNat % 0x2000)) ∧
    (∀ (s : State) (e : Word), s.cart.mapper = .mmc3 m → 0x6000 ≤ e.toNat → e.toNat < 0x8000 →
      s.cart.prgRamPresent = true → (busWrite e d s).cart.prgRam =
        if m.protect.getLsbD 6 then s.cart.prgRam else s.cart.prgRam.write (e.toNat - 0x6000) d) ∧
    ∀ c : Cart, c.mapper = .mmc3 m →
      c.mirror = (if c.mirroring = .fourScreen then .fourScreen else if m.horizontal then .horizontal else .vertical) ∧
      ∀ j, j < 0x2000 →
        let slots := [r 0 / 2 * 2, r 0 / 2 * 2 + 1, r 1 / 2 * 2, r 1 / 2 * 2 + 1, r 2, r 3, r 4, r 5]
        let slot := if m.select.getLsbD 7 then (j / 0x400 + 4) % 8 else j / 0x400
        c.ppuRead j = c.chr.read ((slots.getD slot 0 * 0x400 + j % 0x400) % c.chrSize)

/-- From every well-formed state, with the default DEVICE_RESET, a step's next state is well-formed: RAM, PRG,
PRG-RAM, CHR, OAM, palette, nametable and register memories in canonical form within their chips, the PPU at a dot
of a frame of 262 scanlines of 341 dots, the frame counter at one of its 4 or 5 steps, controller indexes at most
8, MMC1's shift register not full. -/
def Obligations.EveryStepKeepsWellFormed : Prop :=
  ∀ s t : State, s.params.deviceReset = .nothing → s.wf = true → step s = .next t → t.wf = true

/-- From every state in which the stall counter equals the sum of what the queued DMA transfers still owe, each of
them with a cycle left, a step leads to such a state; so the stall counter is increased only by OAM DMA and DMC
fetches and decreased by one per stall cycle (and dropped by reset). -/
def Obligations.StallIsWhatTheDmaQueueOwes : Prop :=
  ∀ s t : State, s.stallAccounted = true → step s = .next t → t.stallAccounted = true

/-- One cycle's end counts one cycle, latches an NMI exactly on a rising edge of the NMI line and samples the IRQ
line; and after every step, from whatever state, nmi_prev is the level of the PPU's NMI output and irq_sample the
level of the IRQ line (APU frame, APU DMC or mapper) in that state. -/
def Obligations.LinesAreSampledEveryCycle : Prop :=
  (∀ s : State, (endCycle s).cycles = s.cycles + 1#64 ∧
      (endCycle s).nmiPending = (s.nmiPending || ((endCycle s).ppu.nmiLine && !s.nmiPrev))) ∧
    ∀ s t : State, step s = .next t →
      t.nmiPrev = t.ppu.nmiLine ∧ t.irqSample = (t.apu.frameIrq || t.apu.dmcIrq || t.cart.mapper.irq)

/-- A pending NMI is still pending after any stall cycle and after any instruction but BRK; so it is cleared only
when an NMI sequence starts, when a BRK or IRQ sequence is hijacked, and by reset. -/
def Obligations.PendingNmiIsNeverLost : Prop :=
  (∀ s t : State, s.resetReq = false → 0 < s.stall → s.nmiPending = true → step s = .next t → t.nmiPending = true) ∧
    ∀ (i : Instr) (s t : State), mnemonicOf (opcodeOf i) ≠ "BRK" → exec i s = .next t → s.nmiPending = true →
      t.nmiPending = true

/-- No step changes the model's parameters, the host's input snapshots, PRG-ROM, the numbers of banks, the header's
mirroring, the battery flag or the presence of PRG-RAM, nor CHR-ROM: a reset with any DEVICE_RESET changes the
mapper's registers at most, and never the kind of mapper. -/
def Obligations.PlatformNeverChanges : Prop :=
  ∀ s t : State, step s = .next t →
    t.params = s.params ∧ t.pads.input1 = s.pads.input1 ∧ t.pads.input2 = s.pads.input2 ∧
      t.cart.prg = s.cart.prg ∧ t.cart.prgBanks = s.cart.prgBanks ∧ t.cart.chrBanks = s.cart.chrBanks ∧
      t.cart.mirroring = s.cart.mirroring ∧ t.cart.prgRamPresent = s.cart.prgRamPresent ∧
      t.cart.battery = s.cart.battery ∧ (s.cart.chrBanks ≠ 0 → t.cart.chr = s.cart.chr) ∧
      t.cart.mapper.kind = s.cart.mapper.kind

/-- With both policies at their default, from every state that is not already stuck on a refused opcode, any number
of steps can be taken: no step faults or is refused, whatever the memory, the devices and the free values are; and
no step leaves the core stuck. -/
def Obligations.TheCoreNeverStops : Prop :=
  ∀ (n : Nat) (s : State), s.policiesNop = true → s.stuck = none →
    ∃ t, Host.Core.run Sys2Proof.core n s = .next t ∧ t.stuck = none

/-- When an instruction completes with A, X, Y or S changed, it is one of those rules R21 to R24 list as writers of
that register (the shifts write A only in their accumulator forms). The reader lists of those rules are not part of
this statement. -/
def Obligations.RegisterWritersAreTheListed : Prop :=
  ∀ (i : Instr) (s t : State), exec i s = .next t →
    let mn := mnemonicOf (opcodeOf i)
    (t.a ≠ s.a → mn ∈
        ["LDA", "TXA", "TYA", "PLA", "ADC", "SBC", "AND", "ORA", "EOR", "LAX", "SLO", "RLA", "SRE", "RRA",
         "ISC", "ANC", "ALR", "ARR"] ∨
      opcodeOf i ∈ [0x0A#8, 0x2A#8, 0x4A#8, 0x6A#8]) ∧
    (t.x ≠ s.x → mn ∈ ["LDX", "TAX", "TSX", "INX", "DEX", "LAX", "AXS"]) ∧
    (t.y ≠ s.y → mn ∈ ["LDY", "TAY", "INY", "DEY"]) ∧
    (t.s ≠ s.s → mn ∈ ["TXS", "PHA", "PHP", "PLA", "PLP", "JSR", "RTS", "RTI", "BRK"])

/-- When an instruction completes with C, Z, I, D, V or N changed, it is one of those rules R30 to R35 list as
writers of that flag. The reader lists of those rules are not part of this statement. -/
def Obligations.FlagWritersAreTheListed : Prop :=
  ∀ (i : Instr) (s t : State), exec i s = .next t →
    let mn := mnemonicOf (opcodeOf i)
    (t.p.c ≠ s.p.c → mn ∈
      ["ADC", "SBC", "CMP", "CPX", "CPY", "ASL", "LSR", "ROL", "ROR", "CLC", "SEC", "PLP", "RTI", "SLO", "RLA",
       "SRE", "RRA", "DCP", "ISC", "ANC", "ALR", "ARR", "AXS"]) ∧
    (t.p.z ≠ s.p.z ∨ t.p.n ≠ s.p.n → mn ∈
      ["LDA", "LDX", "LDY", "TAX", "TAY", "TXA", "TYA", "TSX", "PLA", "ADC", "SBC", "AND", "ORA", "EOR", "CMP",
       "CPX", "CPY", "INC", "DEC", "INX", "INY", "DEX", "DEY", "ASL", "LSR", "ROL", "ROR", "LAX", "DCP", "ISC",
       "SLO", "RLA", "SRE", "RRA", "ANC", "ALR", "ARR", "AXS", "BIT", "PLP", "RTI"]) ∧
    (t.p.i ≠ s.p.i → mn ∈ ["SEI", "CLI", "PLP", "RTI", "BRK"]) ∧
    (t.p.d ≠ s.p.d → mn ∈ ["SED", "CLD", "PLP", "RTI"]) ∧
    (t.p.v ≠ s.p.v → mn ∈ ["ADC", "SBC", "BIT", "CLV", "PLP", "RTI", "RRA", "ISC", "ARR"])

/-- With nothing else due and the default policies, a step over an opcode that is not a branch, JMP, JSR, RTS, RTI
or BRK completes with PC at the address of the opcode plus its length from Table 30-B, modulo 2^16, wherever the
bytes lie. -/
def Obligations.PcIsPastNonControlInstructions : Prop :=
  ∀ s : State, s.atInstruction = true → s.policiesNop = true →
    let op := (fetch s).1
    mnemonicOf op ∉ ["BCC", "BCS", "BEQ", "BMI", "BNE", "BPL", "BVC", "BVS", "JMP", "JSR", "RTS", "RTI", "BRK"] →
    ∃ t, step s = .next t ∧ t.pc = s.pc + BitVec.ofNat 16 (opLength op)

/-- With nothing else due and the default policies, the step of every one of the 256 opcodes, on all operands,
takes exactly the base cycles of its row of Table 30-B, plus one for an indexed read of a '+p' row whose low-byte
sum carries, plus one for a taken branch and one more if its target is on another page than the next instruction. -/
def Obligations.StepTakesTableCycles : Prop :=
  ∀ s : State, s.atInstruction = true → s.policiesNop = true →
    let op := (fetch s).1
    let f := fetchPhase s
    ∃ t, step s = .next t ∧
      t.cycles = s.cycles + BitVec.ofNat 64 (baseCycles op + penaltyCycles f.1 f.2.pc f.2)

/-- The address phase of each mode gives Table 30-A's effective address from the registers and the zero page
(zero-page indexing and pointers wrap in page 0x00, absolute and indirect-indexed sums modulo 2^16), the unfixed
address U with the base's high byte, and the carry of the low-byte sum; it changes no register, stores nothing and
takes the mode's cycles; and where the effective address shows memory, the operand read is the byte there, whatever
the dummy read at U did. -/
def Obligations.EffectiveAddressesAreTableThirtyA : Prop :=
  ∀ (o : Operand) (s : State),
    let e := (addressPhase o s).1
    e.ea = tableAddr o s ∧ e.cross = crossesPage o s ∧ e.indexed = (indexed? o s).isSome ∧
      e.u = (match indexed? o s with
        | some (base, r) => mkWord (hi base) (lo base + r)
        | none => tableAddr o s) ∧
      (addressPhase o s).2.regs = s.regs ∧ StoresNothing (addressCycles o) s (addressPhase o s).2 ∧
      (∀ b, memByte s (tableAddr o s) = some b → operandByte (.mem o) s = b) ∧
      (writeAddress o s).1 = tableAddr o s

/-- Every form of LDA, LDX, LDY and LAX has the opcode Table 30-B gives it and completes: the operand M goes to A,
X, Y, or both A and X; N is bit 7 of M and Z says M = 0; every other register and flag, every byte of memory and
what is pending are unchanged; the bus accesses are exactly those of ReadOperand() and the cycles those of Table
40-A. LAX immediate (0xAB) gives the operand itself. -/
def Obligations.LoadsPutOperandInRegister : Prop :=
  ∀ (s : State) (m a q : Byte) (w : Word),
    (∀ (op : Byte) (i : Instr) (src : Source), (op, i, src) ∈
        [(0xA1#8, Instr.ldaIzx q, Source.mem (.izx q)), (0xA5#8, Instr.ldaZp a, Source.mem (.zp a)),
         (0xA9#8, Instr.ldaImm m, Source.imm m), (0xAD#8, Instr.ldaAbs w, Source.mem (.abs w)),
         (0xB1#8, Instr.ldaIzy q, Source.mem (.izy q)), (0xB5#8, Instr.ldaZpx a, Source.mem (.zpx a)),
         (0xB9#8, Instr.ldaAbsy w, Source.mem (.absy w)), (0xBD#8, Instr.ldaAbsx w, Source.mem (.absx w))] →
      opcodeOf i = op ∧ (let M := operandByte src s
        Reads i src s (M, s.x, s.y, s.s, s.pc, flagsNZ M s.p))) ∧
    (∀ (op : Byte) (i : Instr) (src : Source), (op, i, src) ∈
        [(0xA2#8, Instr.ldxImm m, Source.imm m), (0xA6#8, Instr.ldxZp a, Source.mem (.zp a)),
         (0xAE#8, Instr.ldxAbs w, Source.mem (.abs w)), (0xB6#8, Instr.ldxZpy a, Source.mem (.zpy a)),
         (0xBE#8, Instr.ldxAbsy w, Source.mem (.absy w))] →
      opcodeOf i = op ∧ (let M := operandByte src s
        Reads i src s (s.a, M, s.y, s.s, s.pc, flagsNZ M s.p))) ∧
    (∀ (op : Byte) (i : Instr) (src : Source), (op, i, src) ∈
        [(0xA0#8, Instr.ldyImm m, Source.imm m), (0xA4#8, Instr.ldyZp a, Source.mem (.zp a)),
         (0xAC#8, Instr.ldyAbs w, Source.mem (.abs w)), (0xB4#8, Instr.ldyZpx a, Source.mem (.zpx a)),
         (0xBC#8, Instr.ldyAbsx w, Source.mem (.absx w))] →
      opcodeOf i = op ∧ (let M := operandByte src s
        Reads i src s (s.a, s.x, M, s.s, s.pc, flagsNZ M s.p))) ∧
    (∀ (op : Byte) (i : Instr) (src : Source), (op, i, src) ∈
        [(0xA3#8, Instr.laxIzx q, Source.mem (.izx q)), (0xA7#8, Instr.laxZp a, Source.mem (.zp a)),
         (0xAB#8, Instr.laxImm m, Source.imm m), (0xAF#8, Instr.laxAbs w, Source.mem (.abs w)),
         (0xB3#8, Instr.laxIzy q, Source.mem (.izy q)), (0xB7#8, Instr.laxZpy a, Source.mem (.zpy a)),
         (0xBF#8, Instr.laxAbsy w, Source.mem (.absy w))] →
      opcodeOf i = op ∧ (let M := operandByte src s
        Reads i src s (M, M, s.y, s.s, s.pc, flagsNZ M s.p)))

/-- Every form of STA, STX, STY and SAX has the opcode Table 30-B gives it and completes from a well-formed state:
A, X, Y or A and X is stored at the effective address of Table 30-A; a stored byte reads back in RAM (at every
mirror) and in writable PRG-RAM; every other byte of memory, every register and every flag are unchanged; the
accesses are those of WriteOperand and the cycles those of Table 40-A, the extra read of absx, absy and izy always
included. -/
def Obligations.StoresWriteOneByte : Prop :=
  ∀ (s : State) (a q : Byte) (w : Word), s.wf = true →
    (∀ (op : Byte) (i : Instr) (o : Operand), (op, i, o) ∈
        [(0x81#8, Instr.staIzx q, Operand.izx q), (0x85#8, Instr.staZp a, Operand.zp a),
         (0x8D#8, Instr.staAbs w, Operand.abs w), (0x91#8, Instr.staIzy q, Operand.izy q),
         (0x95#8, Instr.staZpx a, Operand.zpx a), (0x99#8, Instr.staAbsy w, Operand.absy w),
         (0x9D#8, Instr.staAbsx w, Operand.absx w)] →
      opcodeOf i = op ∧ Writes i o s s.a) ∧
    (∀ (op : Byte) (i : Instr) (o : Operand), (op, i, o) ∈
        [(0x86#8, Instr.stxZp a, Operand.zp a), (0x8E#8, Instr.stxAbs w, Operand.abs w),
         (0x96#8, Instr.stxZpy a, Operand.zpy a)] →
      opcodeOf i = op ∧ Writes i o s s.x) ∧
    (∀ (op : Byte) (i : Instr) (o : Operand), (op, i, o) ∈
        [(0x84#8, Instr.styZp a, Operand.zp a), (0x8C#8, Instr.styAbs w, Operand.abs w),
         (0x94#8, Instr.styZpx a, Operand.zpx a)] →
      opcodeOf i = op ∧ Writes i o s s.y) ∧
    (∀ (op : Byte) (i : Instr) (o : Operand), (op, i, o) ∈
        [(0x83#8, Instr.saxIzx q, Operand.izx q), (0x87#8, Instr.saxZp a, Operand.zp a),
         (0x8F#8, Instr.saxAbs w, Operand.abs w), (0x97#8, Instr.saxZpy a, Operand.zpy a)] →
      opcodeOf i = op ∧ Writes i o s (s.a &&& s.x))

/-- TAX, TAY, TXA, TYA and TSX copy their source register to their destination and set N and Z from it; TXS copies
X to S and sets no flag. Each has its opcode, completes after one dummy read at PC in one cycle after the opcode
fetch, and leaves every other register, flag and byte of memory unchanged. -/
def Obligations.TransfersCopyRegisters : Prop :=
  ∀ s : State, (∀ (op : Byte) (i : Instr) (r : Regs), (op, i, r) ∈ [
        (0xAA#8, Instr.tax, (s.a, s.a, s.y, s.s, s.pc, flagsNZ s.a s.p)),
        (0xA8#8, Instr.tay, (s.a, s.x, s.a, s.s, s.pc, flagsNZ s.a s.p)),
        (0x8A#8, Instr.txa, (s.x, s.x, s.y, s.s, s.pc, flagsNZ s.x s.p)),
        (0x98#8, Instr.tya, (s.y, s.x, s.y, s.s, s.pc, flagsNZ s.y s.p)),
        (0xBA#8, Instr.tsx, (s.a, s.s, s.y, s.s, s.pc, flagsNZ s.s s.p)),
        (0x9A#8, Instr.txs, (s.a, s.x, s.y, s.x, s.pc, s.p))] →
      opcodeOf i = op ∧ Implied i s r)

/-- PHA stores A, and PHP the image of the flags with bits 5 and 4 (B) set, at 0x0100 | S; S then goes down by 1
modulo 2^8; no flag, no other register and no other byte of memory changes; they take 2 cycles after the opcode
fetch, a read at PC and the write. The image holds N, V, 1, B, D, I, Z, C from bit 7 down to bit 0. -/
def Obligations.PushesStoreAtStackPointer : Prop :=
  (∀ s : State, s.wf = true → ∀ (op : Byte) (i : Instr) (v : Byte),
      (op, i, v) ∈ [(0x48#8, Instr.pha, s.a), (0x08#8, Instr.php, s.p.pack true)] →
      opcodeOf i = op ∧ ∃ t, exec i s = .next t ∧ t.regs = (s.a, s.x, s.y, s.s - 1#8, s.pc, s.p) ∧
        t.devices = (accesses [.read s.pc, .write (stackAddr s.s) v] s).devices ∧ StacksBytes [v] 2 s t) ∧
    ∀ (p : Flags) (b : Bool), let v := p.pack b
      v.getLsbD 7 = p.n ∧ v.getLsbD 6 = p.v ∧ v.getLsbD 5 = true ∧ v.getLsbD 4 = b ∧ v.getLsbD 3 = p.d ∧
        v.getLsbD 2 = p.i ∧ v.getLsbD 1 = p.z ∧ v.getLsbD 0 = p.c

/-- PLA and PLP read the byte at 0x0100 | (S + 1), S + 1 modulo 2^8, and leave S one higher. PLA puts it into A and
sets N and Z; PLP sets all six flags from bits 7, 6, 3, 2, 1, 0 and ignores bits 5 and 4. Nothing else changes, no
byte is stored, and they take 3 cycles after the opcode fetch: reads at PC, at 0x0100 | S, and of the byte. -/
def Obligations.PullsReadAboveStackPointer : Prop :=
  ∀ s : State, let v := stackByte s 1#8
    ∀ (op : Byte) (i : Instr) (r : Regs), (op, i, r) ∈ [
        (0x68#8, Instr.pla, (v, s.x, s.y, s.s + 1#8, s.pc, flagsNZ v s.p)),
        (0x28#8, Instr.plp, (s.a, s.x, s.y, s.s + 1#8, s.pc,
          ({ n := v.getLsbD 7, v := v.getLsbD 6, d := v.getLsbD 3, i := v.getLsbD 2, z := v.getLsbD 1,
             c := v.getLsbD 0 } : Flags)))] →
      opcodeOf i = op ∧ ∃ t, exec i s = .next t ∧ t.regs = r ∧
        t.devices = (accesses [.read s.pc, .read (stackAddr s.s), .read (stackAddr (s.s + 1#8))] s).devices ∧
        StoresNothing 3 s t

/-- Every form of ADC, SBC and the alias 0xEB has its opcode and completes: A becomes A + M + C, or A + (M
complemented) + C, modulo 2^8; C says the unsigned sum passed 0xFF, V that the signed sum lies outside -128 to 127,
N and Z describe the result; D is not read; I, D, the other registers and memory are unchanged. -/
def Obligations.AddAndSubtractAreBinary : Prop :=
  ∀ (s : State) (m a q : Byte) (w : Word),
    (∀ (op : Byte) (i : Instr) (src : Source), (op, i, src) ∈
        [(0x61#8, Instr.adcIzx q, Source.mem (.izx q)), (0x65#8, Instr.adcZp a, Source.mem (.zp a)),
         (0x69#8, Instr.adcImm m, Source.imm m), (0x6D#8, Instr.adcAbs w, Source.mem (.abs w)),
         (0x71#8, Instr.adcIzy q, Source.mem (.izy q)), (0x75#8, Instr.adcZpx a, Source.mem (.zpx a)),
         (0x79#8, Instr.adcAbsy w, Source.mem (.absy w)), (0x7D#8, Instr.adcAbsx w, Source.mem (.absx w))] →
      opcodeOf i = op ∧ (let M := operandByte src s
        Reads i src s (let q := adder s.a M s.p.c s.p; (q.1, s.x, s.y, s.s, s.pc, q.2)))) ∧
    (∀ (op : Byte) (i : Instr) (src : Source), (op, i, src) ∈
        [(0xE1#8, Instr.sbcIzx q, Source.mem (.izx q)), (0xE5#8, Instr.sbcZp a, Source.mem (.zp a)),
         (0xE9#8, Instr.sbcImm m, Source.imm m), (0xEB#8, Instr.sbcImmEB m, Source.imm m),
         (0xED#8, Instr.sbcAbs w, Source.mem (.abs w)), (0xF1#8, Instr.sbcIzy q, Source.mem (.izy q)),
         (0xF5#8, Instr.sbcZpx a, Source.mem (.zpx a)), (0xF9#8, Instr.sbcAbsy w, Source.mem (.absy w)),
         (0xFD#8, Instr.sbcAbsx w, Source.mem (.absx w))] →
      opcodeOf i = op ∧ (let M := operandByte src s
        Reads i src s (let q := adder s.a (~~~M) s.p.c s.p; (q.1, s.x, s.y, s.s, s.pc, q.2))))

/-- Every form of AND, ORA and EOR has its opcode and completes: A becomes the bitwise and, or, exclusive or of A
and M; N and Z describe it; everything else is unchanged. -/
def Obligations.LogicCombinesAWithOperand : Prop :=
  ∀ (s : State) (m a q : Byte) (w : Word),
    (∀ (op : Byte) (i : Instr) (src : Source), (op, i, src) ∈
        [(0x21#8, Instr.andIzx q, Source.mem (.izx q)), (0x25#8, Instr.andZp a, Source.mem (.zp a)),
         (0x29#8, Instr.andImm m, Source.imm m), (0x2D#8, Instr.andAbs w, Source.mem (.abs w)),
         (0x31#8, Instr.andIzy q, Source.mem (.izy q)), (0x35#8, Instr.andZpx a, Source.mem (.zpx a)),
         (0x39#8, Instr.andAbsy w, Source.mem (.absy w)), (0x3D#8, Instr.andAbsx w, Source.mem (.absx w))] →
      opcodeOf i = op ∧ (let M := operandByte src s
        Reads i src s (s.a &&& M, s.x, s.y, s.s, s.pc, flagsNZ (s.a &&& M) s.p))) ∧
    (∀ (op : Byte) (i : Instr) (src : Source), (op, i, src) ∈
        [(0x01#8, Instr.oraIzx q, Source.mem (.izx q)), (0x05#8, Instr.oraZp a, Source.mem (.zp a)),
         (0x09#8, Instr.oraImm m, Source.imm m), (0x0D#8, Instr.oraAbs w, Source.mem (.abs w)),
         (0x11#8, Instr.oraIzy q, Source.mem (.izy q)), (0x15#8, Instr.oraZpx a, Source.mem (.zpx a)),
         (0x19#8, Instr.oraAbsy w, Source.mem (.absy w)), (0x1D#8, Instr.oraAbsx w, Source.mem (.absx w))] →
      opcodeOf i = op ∧ (let M := operandByte src s
        Reads i src s (s.a ||| M, s.x, s.y, s.s, s.pc, flagsNZ (s.a ||| M) s.p))) ∧
    (∀ (op : Byte) (i : Instr) (src : Source), (op, i, src) ∈
        [(0x41#8, Instr.eorIzx q, Source.mem (.izx q)), (0x45#8, Instr.eorZp a, Source.mem (.zp a)),
         (0x49#8, Instr.eorImm m, Source.imm m), (0x4D#8, Instr.eorAbs w, Source.mem (.abs w)),
         (0x51#8, Instr.eorIzy q, Source.mem (.izy q)), (0x55#8, Instr.eorZpx a, Source.mem (.zpx a)),
         (0x59#8, Instr.eorAbsy w, Source.mem (.absy w)), (0x5D#8, Instr.eorAbsx w, Source.mem (.absx w))] →
      opcodeOf i = op ∧ (let M := operandByte src s
        Reads i src s (s.a ^^^ M, s.x, s.y, s.s, s.pc, flagsNZ (s.a ^^^ M) s.p)))

/-- Every form of CMP, CPX and CPY sets C to the unsigned A (X, Y) >= M and N and Z from the difference modulo 2^8,
V unchanged; BIT sets Z from A and M, N and V from bits 7 and 6 of M, C unchanged. No register and no byte of
memory changes. -/
def Obligations.ComparesSetFlagsOnly : Prop :=
  ∀ (s : State) (m a q : Byte) (w : Word),
    (∀ (op : Byte) (i : Instr) (src : Source), (op, i, src) ∈
        [(0xC1#8, Instr.cmpIzx q, Source.mem (.izx q)), (0xC5#8, Instr.cmpZp a, Source.mem (.zp a)),
         (0xC9#8, Instr.cmpImm m, Source.imm m), (0xCD#8, Instr.cmpAbs w, Source.mem (.abs w)),
         (0xD1#8, Instr.cmpIzy q, Source.mem (.izy q)), (0xD5#8, Instr.cmpZpx a, Source.mem (.zpx a)),
         (0xD9#8, Instr.cmpAbsy w, Source.mem (.absy w)), (0xDD#8, Instr.cmpAbsx w, Source.mem (.absx w))] →
      opcodeOf i = op ∧ (let M := operandByte src s
        Reads i src s (s.a, s.x, s.y, s.s, s.pc, flagsCompare s.a M s.p))) ∧
    (∀ (op : Byte) (i : Instr) (src : Source), (op, i, src) ∈
        [(0xE0#8, Instr.cpxImm m, Source.imm m), (0xE4#8, Instr.cpxZp a, Source.mem (.zp a)),
         (0xEC#8, Instr.cpxAbs w, Source.mem (.abs w))] →
      opcodeOf i = op ∧ (let M := operandByte src s
        Reads i src s (s.a, s.x, s.y, s.s, s.pc, flagsCompare s.x M s.p))) ∧
    (∀ (op : Byte) (i : Instr) (src : Source), (op, i, src) ∈
        [(0xC0#8, Instr.cpyImm m, Source.imm m), (0xC4#8, Instr.cpyZp a, Source.mem (.zp a)),
         (0xCC#8, Instr.cpyAbs w, Source.mem (.abs w))] →
      opcodeOf i = op ∧ (let M := operandByte src s
        Reads i src s (s.a, s.x, s.y, s.s, s.pc, flagsCompare s.y M s.p))) ∧
    (∀ (op : Byte) (i : Instr) (src : Source), (op, i, src) ∈
        [(0x24#8, Instr.bitZp a, Source.mem (.zp a)), (0x2C#8, Instr.bitAbs w, Source.mem (.abs w))] →
      opcodeOf i = op ∧ (let M := operandByte src s
        Reads i src s (s.a, s.x, s.y, s.s, s.pc,
          { s.p with z := s.a &&& M == 0#8, n := M.getLsbD 7, v := M.getLsbD 6 })))

/-- Every form of INC, DEC, DCP and ISC has its opcode and completes from a well-formed state: the byte at the
effective address goes up or down by 1 modulo 2^8, the old byte being written back first; INC and DEC set N and Z
from it; DCP compares A with it; ISC subtracts it from A with the carry. No other byte, register or flag changes. -/
def Obligations.IncrementsAndDecrementsModifyMemory : Prop :=
  ∀ (s : State) (a q : Byte) (w : Word), s.wf = true →
    (∀ (op : Byte) (i : Instr) (o : Operand), (op, i, o) ∈
        [(0xE6#8, Instr.incZp a, Operand.zp a), (0xEE#8, Instr.incAbs w, Operand.abs w),
         (0xF6#8, Instr.incZpx a, Operand.zpx a), (0xFE#8, Instr.incAbsx w, Operand.absx w)] →
      opcodeOf i = op ∧ (let M := modifiedByte o s
        Modifies i o s (M + 1#8) (s.a, s.x, s.y, s.s, s.pc, flagsNZ (M + 1#8) s.p))) ∧
    (∀ (op : Byte) (i : Instr) (o : Operand), (op, i, o) ∈
        [(0xC6#8, Instr.decZp a, Operand.zp a), (0xCE#8, Instr.decAbs w, Operand.abs w),
         (0xD6#8, Instr.decZpx a, Operand.zpx a), (0xDE#8, Instr.decAbsx w, Operand.absx w)] →
      opcodeOf i = op ∧ (let M := modifiedByte o s
        Modifies i o s (M - 1#8) (s.a, s.x, s.y, s.s, s.pc, flagsNZ (M - 1#8) s.p))) ∧
    (∀ (op : Byte) (i : Instr) (o : Operand), (op, i, o) ∈
        [(0xC3#8, Instr.dcpIzx q, Operand.izx q), (0xC7#8, Instr.dcpZp a, Operand.zp a),
         (0xCF#8, Instr.dcpAbs w, Operand.abs w), (0xD3#8, Instr.dcpIzy q, Operand.izy q),
         (0xD7#8, Instr.dcpZpx a, Operand.zpx a), (0xDB#8, Instr.dcpAbsy w, Operand.absy w),
         (0xDF#8, Instr.dcpAbsx w, Operand.absx w)] →
      opcodeOf i = op ∧ (let M := modifiedByte o s
        Modifies i o s (M - 1#8) (s.a, s.x, s.y, s.s, s.pc, flagsCompare s.a (M - 1#8) s.p))) ∧
    (∀ (op : Byte) (i : Instr) (o : Operand), (op, i, o) ∈
        [(0xE3#8, Instr.iscIzx q, Operand.izx q), (0xE7#8, Instr.iscZp a, Operand.zp a),
         (0xEF#8, Instr.iscAbs w, Operand.abs w), (0xF3#8, Instr.iscIzy q, Operand.izy q),
         (0xF7#8, Instr.iscZpx a, Operand.zpx a), (0xFB#8, Instr.iscAbsy w, Operand.absy w),
         (0xFF#8, Instr.iscAbsx w, Operand.absx w)] →
      opcodeOf i = op ∧ (let M := modifiedByte o s
        let q := adder s.a (~~~(M + 1#8)) s.p.c s.p
        Modifies i o s (M + 1#8) (q.1, s.x, s.y, s.s, s.pc, q.2)))

/-- INX, INY, DEX and DEY change X or Y by 1 modulo 2^8 and set N and Z from the result; C and V, the other
registers and memory are unchanged; one dummy read at PC. -/
def Obligations.IndexRegistersStepByOne : Prop :=
  ∀ s : State, (∀ (op : Byte) (i : Instr) (r : Regs), (op, i, r) ∈ [
        (0xE8#8, Instr.inx, (s.a, s.x + 1#8, s.y, s.s, s.pc, flagsNZ (s.x + 1#8) s.p)),
        (0xC8#8, Instr.iny, (s.a, s.x, s.y + 1#8, s.s, s.pc, flagsNZ (s.y + 1#8) s.p)),
        (0xCA#8, Instr.dex, (s.a, s.x - 1#8, s.y, s.s, s.pc, flagsNZ (s.x - 1#8) s.p)),
        (0x88#8, Instr.dey, (s.a, s.x, s.y - 1#8, s.s, s.pc, flagsNZ (s.y - 1#8) s.p))] →
      opcodeOf i = op ∧ Implied i s r)

/-- Every form of ASL, LSR, ROL and ROR has its opcode and completes (memory forms from a well-formed state): the
byte moves one bit left or right, ROL and ROR taking the old C in; C becomes the bit moved out, N and Z describe
the result, V is unchanged; the accumulator forms make one dummy read at PC and store nothing, the memory forms
write the old byte back and then the new one at the effective address; nothing else changes. -/
def Obligations.ShiftsMoveOneBit : Prop :=
  ∀ (s : State) (a : Byte) (w : Word), s.wf = true →
    let c0 := BitVec.ofNat 8 s.p.c.toNat
    (∀ (op : Byte) (i : Instr) (o : Operand), (op, i, o) ∈
        [(0x06#8, Instr.aslZp a, Operand.zp a), (0x0E#8, Instr.aslAbs w, Operand.abs w),
         (0x16#8, Instr.aslZpx a, Operand.zpx a), (0x1E#8, Instr.aslAbsx w, Operand.absx w)] →
      opcodeOf i = op ∧ (let M := modifiedByte o s
        let v := M <<< 1
        Modifies i o s v (s.a, s.x, s.y, s.s, s.pc, flagsNZ v { s.p with c := M.getLsbD 7 }))) ∧
    (∀ (op : Byte) (i : Instr) (o : Operand), (op, i, o) ∈
        [(0x46#8, Instr.lsrZp a, Operand.zp a), (0x4E#8, Instr.lsrAbs w, Operand.abs w),
         (0x56#8, Instr.lsrZpx a, Operand.zpx a), (0x5E#8, Instr.lsrAbsx w, Operand.absx w)] →
      opcodeOf i = op ∧ (let M := modifiedByte o s
        let v := M >>> 1
        Modifies i o s v (s.a, s.x, s.y, s.s, s.pc, flagsNZ v { s.p with c := M.getLsbD 0 }))) ∧
    (∀ (op : Byte) (i : Instr) (o : Operand), (op, i, o) ∈
        [(0x26#8, Instr.rolZp a, Operand.zp a), (0x2E#8, Instr.rolAbs w, Operand.abs w),
         (0x36#8, Instr.rolZpx a, Operand.zpx a), (0x3E#8, Instr.rolAbsx w, Operand.absx w)] →
      opcodeOf i = op ∧ (let M := modifiedByte o s
        let v := (M <<< 1) ||| c0
        Modifies i o s v (s.a, s.x, s.y, s.s, s.pc, flagsNZ v { s.p with c := M.getLsbD 7 }))) ∧
    (∀ (op : Byte) (i : Instr) (o : Operand), (op, i, o) ∈
        [(0x66#8, Instr.rorZp a, Operand.zp a), (0x6E#8, Instr.rorAbs w, Operand.abs w),
         (0x76#8, Instr.rorZpx a, Operand.zpx a), (0x7E#8, Instr.rorAbsx w, Operand.absx w)] →
      opcodeOf i = op ∧ (let M := modifiedByte o s
        let v := (M >>> 1) ||| (c0 <<< 7)
        Modifies i o s v (s.a, s.x, s.y, s.s, s.pc, flagsNZ v { s.p with c := M.getLsbD 0 }))) ∧
    (∀ (op : Byte) (i : Instr) (r : Regs), (op, i, r) ∈ [
        (0x0A#8, Instr.aslAcc, (s.a <<< 1, s.x, s.y, s.s, s.pc,
          flagsNZ (s.a <<< 1) { s.p with c := s.a.getLsbD 7 })),
        (0x4A#8, Instr.lsrAcc, (s.a >>> 1, s.x, s.y, s.s, s.pc,
          flagsNZ (s.a >>> 1) { s.p with c := s.a.getLsbD 0 })),
        (0x2A#8, Instr.rolAcc, ((s.a <<< 1) ||| c0, s.x, s.y, s.s, s.pc,
          flagsNZ ((s.a <<< 1) ||| c0) { s.p with c := s.a.getLsbD 7 })),
        (0x6A#8, Instr.rorAcc, ((s.a >>> 1) ||| (c0 <<< 7), s.x, s.y, s.s, s.pc,
          flagsNZ ((s.a >>> 1) ||| (c0 <<< 7)) { s.p with c := s.a.getLsbD 0 }))] →
      opcodeOf i = op ∧ Implied i s r)

/-- JMP absolute sets PC to its operand, with no further access and nothing else changed. JMP indirect sets PC to
the word whose low byte is at the pointer and whose high byte is in the same page at the pointer's low byte plus 1
modulo 2^8, where these show memory; nothing else changes; two reads, low byte first. -/
def Obligations.JmpSetsPc : Prop :=
  ∀ (s : State) (w : Word),
    opcodeOf (.jmpAbs w) = 0x4C#8 ∧ exec (.jmpAbs w) s = .next { s with pc := w } ∧
    opcodeOf (.jmpInd w) = 0x6C#8 ∧
    let second := mkWord (hi w) (lo w + 1#8)
    ∃ t, exec (.jmpInd w) s = .next t ∧ t.devices = (dummyRead second (dummyRead w s)).devices ∧
      StoresNothing 2 s t ∧ t.regs = (s.a, s.x, s.y, s.s, t.pc, s.p) ∧
      ∀ l h, memByte s w = some l → memByte s second = some h → t.pc = mkWord h l

/-- Each of the eight branches has its opcode and completes: with its condition false nothing happens after the two
fetches; with it true PC becomes PC_next plus the sign-extended offset modulo 2^16, after a dummy read at PC_next
and, when the target is on another page than PC_next, a second one at the target's low byte in PC_next's page. No
flag, no other register and no byte of memory changes. -/
def Obligations.BranchesGoToTheirTarget : Prop :=
  ∀ (s : State) (off : Byte) (op : Byte) (i : Instr) (cond : Bool), (op, i, cond) ∈ [
      (0x90#8, Instr.bcc off, !s.p.c),
      (0xB0#8, Instr.bcs off, s.p.c),
      (0xF0#8, Instr.beq off, s.p.z),
      (0x30#8, Instr.bmi off, s.p.n),
      (0xD0#8, Instr.bne off, !s.p.z),
      (0x10#8, Instr.bpl off, !s.p.n),
      (0x50#8, Instr.bvc off, !s.p.v),
      (0x70#8, Instr.bvs off, s.p.v)] →
    let target := s.pc + off.signExtend 16
    let samePage : Bool := target.toNat / 0x100 == s.pc.toNat / 0x100
    let read1 := dummyRead s.pc s
    let read2 := dummyRead (mkWord (hi s.pc) (lo target)) read1
    opcodeOf i = op ∧ ∃ t, exec i s = .next t ∧
      t.regs = (s.a, s.x, s.y, s.s, if cond then target else s.pc, s.p) ∧
      t.devices = (if cond then if samePage then read1 else read2 else s).devices ∧
      StoresNothing (if cond then if samePage then 1 else 2 else 0) s t

/-- JSR, with PC at its third byte, pushes PC (high byte first), reads that byte after the pushes and sets PC to it
and the low target byte; where the third byte holds the target's high byte and the pushes do not overwrite it, PC
becomes the target; 4 more cycles; no flag, A, X, Y or other byte changes. RTS sets PC to the pulled word plus 1
modulo 2^16 and S up by 2; stores nothing, 5 more cycles. JSR's accesses are a read at 0x0100 | S, the two writes
and the read at PC; RTS's are reads at PC, at 0x0100 | S, of the two bytes, and at the pulled word. -/
def Obligations.SubroutineCallAndReturn : Prop :=
  ∀ (s : State) (w : Word),
    (opcodeOf (.jsr w) = 0x20#8 ∧ (s.wf = true → ∃ t, exec (.jsr w) s = .next t ∧
      t.regs = (s.a, s.x, s.y, s.s - 2#8, t.pc, s.p) ∧ StacksBytes [hi s.pc, lo s.pc] 4 s t ∧
      t.devices = (accesses [.read (stackAddr s.s), .write (stackAddr s.s) (hi s.pc),
        .write (stackAddr (s.s - 1#8)) (lo s.pc), .read s.pc] s).devices ∧
      (∀ h, memByte t s.pc = some h → t.pc = mkWord h (lo w)) ∧
      (sameCell s.pc (stackAddr s.s) = false → sameCell s.pc (stackAddr (s.s - 1#8)) = false →
        memByte s s.pc = some (hi w) → t.pc = w))) ∧
    (opcodeOf .rts = 0x60#8 ∧ ∃ t, exec .rts s = .next t ∧
      let pulled := mkWord (stackByte s 2#8) (stackByte s 1#8)
      t.regs = (s.a, s.x, s.y, s.s + 2#8, pulled + 1#16, s.p) ∧
      t.devices = (accesses [.read s.pc, .read (stackAddr s.s), .read (stackAddr (s.s + 1#8)),
        .read (stackAddr (s.s + 2#8)), .read pulled] s).devices ∧
      StoresNothing 5 s t)

/-- CLC, SEC, CLI, SEI, CLD, SED and CLV write C, I, D or V as named and no other flag; NOP (0xEA) and the six
implied unofficial NOPs write nothing. Each makes one dummy read at PC, one cycle after the opcode fetch, and
changes no other register and no byte of memory. -/
def Obligations.FlagInstructionsSetOneFlag : Prop :=
  ∀ s : State, (∀ (op : Byte) (i : Instr) (r : Regs), (op, i, r) ∈ [
        (0x18#8, Instr.clc, (s.a, s.x, s.y, s.s, s.pc, { s.p with c := false })),
        (0x38#8, Instr.sec, (s.a, s.x, s.y, s.s, s.pc, { s.p with c := true })),
        (0x58#8, Instr.cli, (s.a, s.x, s.y, s.s, s.pc, { s.p with i := false })),
        (0x78#8, Instr.sei, (s.a, s.x, s.y, s.s, s.pc, { s.p with i := true })),
        (0xD8#8, Instr.cld, (s.a, s.x, s.y, s.s, s.pc, { s.p with d := false })),
        (0xF8#8, Instr.sed, (s.a, s.x, s.y, s.s, s.pc, { s.p with d := true })),
        (0xB8#8, Instr.clv, (s.a, s.x, s.y, s.s, s.pc, { s.p with v := false })),
        (0x1A#8, Instr.nopImp1A, (s.a, s.x, s.y, s.s, s.pc, s.p)),
        (0x3A#8, Instr.nopImp3A, (s.a, s.x, s.y, s.s, s.pc, s.p)),
        (0x5A#8, Instr.nopImp5A, (s.a, s.x, s.y, s.s, s.pc, s.p)),
        (0x7A#8, Instr.nopImp7A, (s.a, s.x, s.y, s.s, s.pc, s.p)),
        (0xDA#8, Instr.nopImpDA, (s.a, s.x, s.y, s.s, s.pc, s.p)),
        (0xEA#8, Instr.nop, (s.a, s.x, s.y, s.s, s.pc, s.p)),
        (0xFA#8, Instr.nopImpFA, (s.a, s.x, s.y, s.s, s.pc, s.p))] →
      opcodeOf i = op ∧ Implied i s r)

/-- Every form of SLO, RLA, SRE and RRA has its opcode and completes from a well-formed state: the byte at the
effective address is shifted as ASL, ROL, LSR or ROR would, the old byte written back first; then A is ored, anded,
exclusive-ored with the new byte (C from the shift, N and Z from A), or for RRA the new byte is added to A with the
C the rotation set (N, V, Z, C from the addition). No other byte, register or flag changes. -/
def Obligations.ShiftAndCombineUseTheNewByte : Prop :=
  ∀ (s : State) (a q : Byte) (w : Word), s.wf = true →
    (∀ (op : Byte) (i : Instr) (o : Operand), (op, i, o) ∈
        [(0x03#8, Instr.sloIzx q, Operand.izx q), (0x07#8, Instr.sloZp a, Operand.zp a),
         (0x0F#8, Instr.sloAbs w, Operand.abs w), (0x13#8, Instr.sloIzy q, Operand.izy q),
         (0x17#8, Instr.sloZpx a, Operand.zpx a), (0x1B#8, Instr.sloAbsy w, Operand.absy w),
         (0x1F#8, Instr.sloAbsx w, Operand.absx w)] →
      opcodeOf i = op ∧ (let M := modifiedByte o s
        let v := s.a ||| (M <<< 1)
        Modifies i o s (M <<< 1) (v, s.x, s.y, s.s, s.pc, flagsNZ v { s.p with c := M.getLsbD 7 }))) ∧
    (∀ (op : Byte) (i : Instr) (o : Operand), (op, i, o) ∈
        [(0x23#8, Instr.rlaIzx q, Operand.izx q), (0x27#8, Instr.rlaZp a, Operand.zp a),
         (0x2F#8, Instr.rlaAbs w, Operand.abs w), (0x33#8, Instr.rlaIzy q, Operand.izy q),
         (0x37#8, Instr.rlaZpx a, Operand.zpx a), (0x3B#8, Instr.rlaAbsy w, Operand.absy w),
         (0x3F#8, Instr.rlaAbsx w, Operand.absx w)] →
      opcodeOf i = op ∧ (let M := modifiedByte o s
        let r := (M <<< 1) ||| BitVec.ofNat 8 s.p.c.toNat
        let v := s.a &&& r
        Modifies i o s r (v, s.x, s.y, s.s, s.pc, flagsNZ v { s.p with c := M.getLsbD 7 }))) ∧
    (∀ (op : Byte) (i : Instr) (o : Operand), (op, i, o) ∈
        [(0x43#8, Instr.sreIzx q, Operand.izx q), (0x47#8, Instr.sreZp a, Operand.zp a),
         (0x4F#8, Instr.sreAbs w, Operand.abs w), (0x53#8, Instr.sreIzy q, Operand.izy q),
         (0x57#8, Instr.sreZpx a, Operand.zpx a), (0x5B#8, Instr.sreAbsy w, Operand.absy w),
         (0x5F#8, Instr.sreAbsx w, Operand.absx w)] →
      opcodeOf i = op ∧ (let M := modifiedByte o s
        let v := s.a ^^^ (M >>> 1)
        Modifies i o s (M >>> 1) (v, s.x, s.y, s.s, s.pc, flagsNZ v { s.p with c := M.getLsbD 0 }))) ∧
    (∀ (op : Byte) (i : Instr) (o : Operand), (op, i, o) ∈
        [(0x63#8, Instr.rraIzx q, Operand.izx q), (0x67#8, Instr.rraZp a, Operand.zp a),
         (0x6F#8, Instr.rraAbs w, Operand.abs w), (0x73#8, Instr.rraIzy q, Operand.izy q),
         (0x77#8, Instr.rraZpx a, Operand.zpx a), (0x7B#8, Instr.rraAbsy w, Operand.absy w),
         (0x7F#8, Instr.rraAbsx w, Operand.absx w)] →
      opcodeOf i = op ∧ (let M := modifiedByte o s
        let r := (M >>> 1) ||| (BitVec.ofNat 8 s.p.c.toNat <<< 7)
        let q := adder s.a r (M.getLsbD 0) s.p
        Modifies i o s r (q.1, s.x, s.y, s.s, s.pc, q.2)))

/-- ALR ands A with the operand and shifts right (C is the bit moved out); ANC ands and copies bit 7 of A into C;
ARR ands and rotates right, C then being bit 6 and V bit 6 xor bit 5 of A; AXS sets X to (A and X) minus the
operand without borrow and flags as a comparison, A unchanged. N and Z describe the result; nothing else changes. -/
def Obligations.ImmediateCombinationsSetTheirFlags : Prop :=
  ∀ (s : State) (m : Byte),
    (∀ (op : Byte) (i : Instr) (src : Source), (op, i, src) ∈
        [(0x4B#8, Instr.alrImm m, Source.imm m)] →
      opcodeOf i = op ∧ (let M := operandByte src s
        Reads i src s (let v := (s.a &&& M) >>> 1
          (v, s.x, s.y, s.s, s.pc, flagsNZ v { s.p with c := (s.a &&& M).getLsbD 0 })))) ∧
    (∀ (op : Byte) (i : Instr) (src : Source), (op, i, src) ∈
        [(0x0B#8, Instr.ancImm0B m, Source.imm m), (0x2B#8, Instr.ancImm2B m, Source.imm m)] →
      opcodeOf i = op ∧ (let M := operandByte src s
        Reads i src s (let v := s.a &&& M; (v, s.x, s.y, s.s, s.pc, flagsNZ v { s.p with c := v.getLsbD 7 })))) ∧
    (∀ (op : Byte) (i : Instr) (src : Source), (op, i, src) ∈
        [(0x6B#8, Instr.arrImm m, Source.imm m)] →
      opcodeOf i = op ∧ (let M := operandByte src s
        Reads i src s (let v := ((s.a &&& M) >>> 1) ||| (BitVec.ofNat 8 s.p.c.toNat <<< 7)
          (v, s.x, s.y, s.s, s.pc, flagsNZ v { s.p with c := v.getLsbD 6, v := v.getLsbD 6 ^^ v.getLsbD 5 })))) ∧
    (∀ (op : Byte) (i : Instr) (src : Source), (op, i, src) ∈
        [(0xCB#8, Instr.axsImm m, Source.imm m)] →
      opcodeOf i = op ∧ (let M := operandByte src s
        Reads i src s (s.a, (s.a &&& s.x) - M, s.y, s.s, s.pc, flagsCompare (s.a &&& s.x) M s.p)))

/-- Every unofficial NOP with an operand (immediate, zero page, zero page X, absolute, absolute X) has its opcode
and completes: it makes every read and dummy read of its mode, in the cycles of Table 40-A, and changes no
register, no flag and no byte of memory. -/
def Obligations.OperandNopsReadAndDiscard : Prop :=
  ∀ (s : State) (m a : Byte) (w : Word),
    (∀ (op : Byte) (i : Instr) (src : Source), (op, i, src) ∈
        [(0x04#8, Instr.nopZp04 a, Source.mem (.zp a)), (0x0C#8, Instr.nopAbs w, Source.mem (.abs w)),
         (0x14#8, Instr.nopZpx14 a, Source.mem (.zpx a)), (0x1C#8, Instr.nopAbsx1C w, Source.mem (.absx w)),
         (0x34#8, Instr.nopZpx34 a, Source.mem (.zpx a)), (0x3C#8, Instr.nopAbsx3C w, Source.mem (.absx w)),
         (0x44#8, Instr.nopZp44 a, Source.mem (.zp a)), (0x54#8, Instr.nopZpx54 a, Source.mem (.zpx a)),
         (0x5C#8, Instr.nopAbsx5C w, Source.mem (.absx w)), (0x64#8, Instr.nopZp64 a, Source.mem (.zp a)),
         (0x74#8, Instr.nopZpx74 a, Source.mem (.zpx a)), (0x7C#8, Instr.nopAbsx7C w, Source.mem (.absx w)),
         (0x80#8, Instr.nopImm80 m, Source.imm m), (0x82#8, Instr.nopImm82 m, Source.imm m),
         (0x89#8, Instr.nopImm89 m, Source.imm m), (0xC2#8, Instr.nopImmC2 m, Source.imm m),
         (0xD4#8, Instr.nopZpxD4 a, Source.mem (.zpx a)), (0xDC#8, Instr.nopAbsxDC w, Source.mem (.absx w)),
         (0xE2#8, Instr.nopImmE2 m, Source.imm m), (0xF4#8, Instr.nopZpxF4 a, Source.mem (.zpx a)),
         (0xFC#8, Instr.nopAbsxFC w, Source.mem (.absx w))] →
      opcodeOf i = op ∧ Reads i src s (s.a, s.x, s.y, s.s, s.pc, s.p))

/-- Under UNSTABLE_OPCODE_POLICY = nop, XAA and LAS read their operand and discard it, and AHX, TAS, SHY and SHX
make their write sequence with the final write replaced by a read at the effective address; under JAM_POLICY = nop
the twelve JAM opcodes make one dummy read at PC. Each has its opcode and completes with no register, flag or byte
of memory changed. -/
def Obligations.PolicyOpcodesRunAsNops : Prop :=
  ∀ (s : State) (m q : Byte) (w : Word),
    (s.params.unstable = .nop →
      (∀ (op : Byte) (i : Instr) (src : Source), (op, i, src) ∈
        [(0x8B#8, Instr.xaaImm m, Source.imm m), (0xBB#8, Instr.lasAbsy w, Source.mem (.absy w))] →
        opcodeOf i = op ∧ Reads i src s s.regs) ∧
      ∀ (op : Byte) (i : Instr) (o : Operand), (op, i, o) ∈
        [(0x93#8, Instr.ahxIzy q, Operand.izy q), (0x9B#8, Instr.tasAbsy w, Operand.absy w),
         (0x9C#8, Instr.shyAbsx w, Operand.absx w), (0x9E#8, Instr.shxAbsy w, Operand.absy w),
         (0x9F#8, Instr.ahxAbsy w, Operand.absy w)] →
        opcodeOf i = op ∧ ∃ t, exec i s = .next t ∧ t.regs = s.regs ∧
          t.devices = (dummyRead (tableAddr o s) (writeAddress o s).2).devices ∧
          StoresNothing (writeCycles o s) s t) ∧
    (s.params.jam = .nop → ∀ (op : Byte) (i : Instr), (op, i) ∈
        [(0x02#8, Instr.jam02), (0x12#8, Instr.jam12), (0x22#8, Instr.jam22), (0x32#8, Instr.jam32),
         (0x42#8, Instr.jam42), (0x52#8, Instr.jam52), (0x62#8, Instr.jam62), (0x72#8, Instr.jam72),
         (0x92#8, Instr.jam92), (0xB2#8, Instr.jamB2), (0xD2#8, Instr.jamD2), (0xF2#8, Instr.jamF2)] →
      opcodeOf i = op ∧ Implied i s s.regs)

/-- The spec's outcome refuse(opcode) is in this model (its choice, log 5) a next state in which the core is stuck,
and a refusal of every step from there. When the opcode at PC is of the unstable or the JAM group and its policy is
refuse, the step performs the opcode fetch only (one cycle, PC advanced by one, no other register, no flag and no
byte of memory changed) and leaves the core stuck; every later step is refused with that opcode and there is no
next state, until the host requests a reset, which the step then serves. -/
def Obligations.RefusedOpcodeSticksUntilReset : Prop :=
  ∀ s : State, s.atInstruction = true →
    let op := (fetch s).1
    (op ∈ [0x8B#8, 0x93#8, 0x9B#8, 0x9C#8, 0x9E#8, 0x9F#8, 0xBB#8] ∧ s.params.unstable = .refuse) ∨
      (op ∈ [0x02#8, 0x12#8, 0x22#8, 0x32#8, 0x42#8, 0x52#8, 0x62#8, 0x72#8, 0x92#8, 0xB2#8, 0xD2#8, 0xF2#8] ∧
        s.params.jam = .refuse) →
    ∃ t, step s = .next t ∧ t = { (fetch s).2 with stuck := some op } ∧
      t.regs = (s.a, s.x, s.y, s.s, s.pc + 1#16, s.p) ∧ KeepsMemory s t ∧ t.cycles = s.cycles + 1#64 ∧
      step t = .refused (.opcodeRefused op) ∧
      step { t with resetReq := true } = .next (resetSequence { t with resetReq := true })
end

