-- ==== Sys2Proof/Laws/State.lean ====
section
/-! SUPPORT. One lemma per field of State and register update, true by definition. -/

namespace Sys2Proof.Machine

variable (s : State) (v : Byte) (w : Word) (f : Flags)

@[simp] theorem State.setA_a : (s.setA v).a = v := rfl
@[simp] theorem State.setA_x : (s.setA v).x = s.x := rfl
@[simp] theorem State.setA_y : (s.setA v).y = s.y := rfl
@[simp] theorem State.setA_s : (s.setA v).s = s.s := rfl
@[simp] theorem State.setA_pc : (s.setA v).pc = s.pc := rfl
@[simp] theorem State.setA_p : (s.setA v).p = s.p := rfl
@[simp] theorem State.setA_cycles : (s.setA v).cycles = s.cycles := rfl
@[simp] theorem State.setA_nmiPrev : (s.setA v).nmiPrev = s.nmiPrev := rfl
@[simp] theorem State.setA_nmiPending : (s.setA v).nmiPending = s.nmiPending := rfl
@[simp] theorem State.setA_irqSample : (s.setA v).irqSample = s.irqSample := rfl
@[simp] theorem State.setA_stall : (s.setA v).stall = s.stall := rfl
@[simp] theorem State.setA_resetReq : (s.setA v).resetReq = s.resetReq := rfl
@[simp] theorem State.setA_coldReset : (s.setA v).coldReset = s.coldReset := rfl
@[simp] theorem State.setA_stuck : (s.setA v).stuck = s.stuck := rfl
@[simp] theorem State.setA_openBus : (s.setA v).openBus = s.openBus := rfl
@[simp] theorem State.setA_ram : (s.setA v).ram = s.ram := rfl
@[simp] theorem State.setA_dma : (s.setA v).dma = s.dma := rfl
@[simp] theorem State.setA_ppu : (s.setA v).ppu = s.ppu := rfl
@[simp] theorem State.setA_apu : (s.setA v).apu = s.apu := rfl
@[simp] theorem State.setA_pads : (s.setA v).pads = s.pads := rfl
@[simp] theorem State.setA_cart : (s.setA v).cart = s.cart := rfl
@[simp] theorem State.setA_params : (s.setA v).params = s.params := rfl
@[simp] theorem State.setA_free : (s.setA v).free = s.free := rfl

@[simp] theorem State.setX_a : (s.setX v).a = s.a := rfl
@[simp] theorem State.setX_x : (s.setX v).x = v := rfl
@[simp] theorem State.setX_y : (s.setX v).y = s.y := rfl
@[simp] theorem State.setX_s : (s.setX v).s = s.s := rfl
@[simp] theorem State.setX_pc : (s.setX v).pc = s.pc := rfl
@[simp] theorem State.setX_p : (s.setX v).p = s.p := rfl
@[simp] theorem State.setX_cycles : (s.setX v).cycles = s.cycles := rfl
@[simp] theorem State.setX_nmiPrev : (s.setX v).nmiPrev = s.nmiPrev := rfl
@[simp] theorem State.setX_nmiPending : (s.setX v).nmiPending = s.nmiPending := rfl
@[simp] theorem State.setX_irqSample : (s.setX v).irqSample = s.irqSample := rfl
@[simp] theorem State.setX_stall : (s.setX v).stall = s.stall := rfl
@[simp] theorem State.setX_resetReq : (s.setX v).resetReq = s.resetReq := rfl
@[simp] theorem State.setX_coldReset : (s.setX v).coldReset = s.coldReset := rfl
@[simp] theorem State.setX_stuck : (s.setX v).stuck = s.stuck := rfl
@[simp] theorem State.setX_openBus : (s.setX v).openBus = s.openBus := rfl
@[simp] theorem State.setX_ram : (s.setX v).ram = s.ram := rfl
@[simp] theorem State.setX_dma : (s.setX v).dma = s.dma := rfl
@[simp] theorem State.setX_ppu : (s.setX v).ppu = s.ppu := rfl
@[simp] theorem State.setX_apu : (s.setX v).apu = s.apu := rfl
@[simp] theorem State.setX_pads : (s.setX v).pads = s.pads := rfl
@[simp] theorem State.setX_cart : (s.setX v).cart = s.cart := rfl
@[simp] theorem State.setX_params : (s.setX v).params = s.params := rfl
@[simp] theorem State.setX_free : (s.setX v).free = s.free := rfl

@[simp] theorem State.setY_a : (s.setY v).a = s.a := rfl
@[simp] theorem State.setY_x : (s.setY v).x = s.x := rfl
@[simp] theorem State.setY_y : (s.setY v).y = v := rfl
@[simp] theorem State.setY_s : (s.setY v).s = s.s := rfl
@[simp] theorem State.setY_pc : (s.setY v).pc = s.pc := rfl
@[simp] theorem State.setY_p : (s.setY v).p = s.p := rfl
@[simp] theorem State.setY_cycles : (s.setY v).cycles = s.cycles := rfl
@[simp] theorem State.setY_nmiPrev : (s.setY v).nmiPrev = s.nmiPrev := rfl
@[simp] theorem State.setY_nmiPending : (s.setY v).nmiPending = s.nmiPending := rfl
@[simp] theorem State.setY_irqSample : (s.setY v).irqSample = s.irqSample := rfl
@[simp] theorem State.setY_stall : (s.setY v).stall = s.stall := rfl
@[simp] theorem State.setY_resetReq : (s.setY v).resetReq = s.resetReq := rfl
@[simp] theorem State.setY_coldReset : (s.setY v).coldReset = s.coldReset := rfl
@[simp] theorem State.setY_stuck : (s.setY v).stuck = s.stuck := rfl
@[simp] theorem State.setY_openBus : (s.setY v).openBus = s.openBus := rfl
@[simp] theorem State.setY_ram : (s.setY v).ram = s.ram := rfl
@[simp] theorem State.setY_dma : (s.setY v).dma = s.dma := rfl
@[simp] theorem State.setY_ppu : (s.setY v).ppu = s.ppu := rfl
@[simp] theorem State.setY_apu : (s.setY v).apu = s.apu := rfl
@[simp] theorem State.setY_pads : (s.setY v).pads = s.pads := rfl
@[simp] theorem State.setY_cart : (s.setY v).cart = s.cart := rfl
@[simp] theorem State.setY_params : (s.setY v).params = s.params := rfl
@[simp] theorem State.setY_free : (s.setY v).free = s.free := rfl

@[simp] theorem State.setS_a : (s.setS v).a = s.a := rfl
@[simp] theorem State.setS_x : (s.setS v).x = s.x := rfl
@[simp] theorem State.setS_y : (s.setS v).y = s.y := rfl
@[simp] theorem State.setS_s : (s.setS v).s = v := rfl
@[simp] theorem State.setS_pc : (s.setS v).pc = s.pc := rfl
@[simp] theorem State.setS_p : (s.setS v).p = s.p := rfl
@[simp] theorem State.setS_cycles : (s.setS v).cycles = s.cycles := rfl
@[simp] theorem State.setS_nmiPrev : (s.setS v).nmiPrev = s.nmiPrev := rfl
@[simp] theorem State.setS_nmiPending : (s.setS v).nmiPending = s.nmiPending := rfl
@[simp] theorem State.setS_irqSample : (s.setS v).irqSample = s.irqSample := rfl
@[simp] theorem State.setS_stall : (s.setS v).stall = s.stall := rfl
@[simp] theorem State.setS_resetReq : (s.setS v).resetReq = s.resetReq := rfl
@[simp] theorem State.setS_coldReset : (s.setS v).coldReset = s.coldReset := rfl
@[simp] theorem State.setS_stuck : (s.setS v).stuck = s.stuck := rfl
@[simp] theorem State.setS_openBus : (s.setS v).openBus = s.openBus := rfl
@[simp] theorem State.setS_ram : (s.setS v).ram = s.ram := rfl
@[simp] theorem State.setS_dma : (s.setS v).dma = s.dma := rfl
@[simp] theorem State.setS_ppu : (s.setS v).ppu = s.ppu := rfl
@[simp] theorem State.setS_apu : (s.setS v).apu = s.apu := rfl
@[simp] theorem State.setS_pads : (s.setS v).pads = s.pads := rfl
@[simp] theorem State.setS_cart : (s.setS v).cart = s.cart := rfl
@[simp] theorem State.setS_params : (s.setS v).params = s.params := rfl
@[simp] theorem State.setS_free : (s.setS v).free = s.free := rfl

@[simp] theorem State.setPc_a : (s.setPc w).a = s.a := rfl
@[simp] theorem State.setPc_x : (s.setPc w).x = s.x := rfl
@[simp] theorem State.setPc_y : (s.setPc w).y = s.y := rfl
@[simp] theorem State.setPc_s : (s.setPc w).s = s.s := rfl
@[simp] theorem State.setPc_pc : (s.setPc w).pc = w := rfl
@[simp] theorem State.setPc_p : (s.setPc w).p = s.p := rfl
@[simp] theorem State.setPc_cycles : (s.setPc w).cycles = s.cycles := rfl
@[simp] theorem State.setPc_nmiPrev : (s.setPc w).nmiPrev = s.nmiPrev := rfl
@[simp] theorem State.setPc_nmiPending : (s.setPc w).nmiPending = s.nmiPending := rfl
@[simp] theorem State.setPc_irqSample : (s.setPc w).irqSample = s.irqSample := rfl
@[simp] theorem State.setPc_stall : (s.setPc w).stall = s.stall := rfl
@[simp] theorem State.setPc_resetReq : (s.setPc w).resetReq = s.resetReq := rfl
@[simp] theorem State.setPc_coldReset : (s.setPc w).coldReset = s.coldReset := rfl
@[simp] theorem State.setPc_stuck : (s.setPc w).stuck = s.stuck := rfl
@[simp] theorem State.setPc_openBus : (s.setPc w).openBus = s.openBus := rfl
@[simp] theorem State.setPc_ram : (s.setPc w).ram = s.ram := rfl
@[simp] theorem State.setPc_dma : (s.setPc w).dma = s.dma := rfl
@[simp] theorem State.setPc_ppu : (s.setPc w).ppu = s.ppu := rfl
@[simp] theorem State.setPc_apu : (s.setPc w).apu = s.apu := rfl
@[simp] theorem State.setPc_pads : (s.setPc w).pads = s.pads := rfl
@[simp] theorem State.setPc_cart : (s.setPc w).cart = s.cart := rfl
@[simp] theorem State.setPc_params : (s.setPc w).params = s.params := rfl
@[simp] theorem State.setPc_free : (s.setPc w).free = s.free := rfl

@[simp] theorem State.setP_a : (s.setP f).a = s.a := rfl
@[simp] theorem State.setP_x : (s.setP f).x = s.x := rfl
@[simp] theorem State.setP_y : (s.setP f).y = s.y := rfl
@[simp] theorem State.setP_s : (s.setP f).s = s.s := rfl
@[simp] theorem State.setP_pc : (s.setP f).pc = s.pc := rfl
@[simp] theorem State.setP_p : (s.setP f).p = f := rfl
@[simp] theorem State.setP_cycles : (s.setP f).cycles = s.cycles := rfl
@[simp] theorem State.setP_nmiPrev : (s.setP f).nmiPrev = s.nmiPrev := rfl
@[simp] theorem State.setP_nmiPending : (s.setP f).nmiPending = s.nmiPending := rfl
@[simp] theorem State.setP_irqSample : (s.setP f).irqSample = s.irqSample := rfl
@[simp] theorem State.setP_stall : (s.setP f).stall = s.stall := rfl
@[simp] theorem State.setP_resetReq : (s.setP f).resetReq = s.resetReq := rfl
@[simp] theorem State.setP_coldReset : (s.setP f).coldReset = s.coldReset := rfl
@[simp] theorem State.setP_stuck : (s.setP f).stuck = s.stuck := rfl
@[simp] theorem State.setP_openBus : (s.setP f).openBus = s.openBus := rfl
@[simp] theorem State.setP_ram : (s.setP f).ram = s.ram := rfl
@[simp] theorem State.setP_dma : (s.setP f).dma = s.dma := rfl
@[simp] theorem State.setP_ppu : (s.setP f).ppu = s.ppu := rfl
@[simp] theorem State.setP_apu : (s.setP f).apu = s.apu := rfl
@[simp] theorem State.setP_pads : (s.setP f).pads = s.pads := rfl
@[simp] theorem State.setP_cart : (s.setP f).cart = s.cart := rfl
@[simp] theorem State.setP_params : (s.setP f).params = s.params := rfl
@[simp] theorem State.setP_free : (s.setP f).free = s.free := rfl

@[simp] theorem State.dropStall_a : s.dropStall.a = s.a := rfl
@[simp] theorem State.dropStall_x : s.dropStall.x = s.x := rfl
@[simp] theorem State.dropStall_y : s.dropStall.y = s.y := rfl
@[simp] theorem State.dropStall_s : s.dropStall.s = s.s := rfl
@[simp] theorem State.dropStall_pc : s.dropStall.pc = s.pc := rfl
@[simp] theorem State.dropStall_p : s.dropStall.p = s.p := rfl
@[simp] theorem State.dropStall_cycles : s.dropStall.cycles = s.cycles := rfl
@[simp] theorem State.dropStall_nmiPrev : s.dropStall.nmiPrev = s.nmiPrev := rfl
@[simp] theorem State.dropStall_nmiPending : s.dropStall.nmiPending = s.nmiPending := rfl
@[simp] theorem State.dropStall_irqSample : s.dropStall.irqSample = s.irqSample := rfl
@[simp] theorem State.dropStall_stall : s.dropStall.stall = 0 := rfl
@[simp] theorem State.dropStall_resetReq : s.dropStall.resetReq = s.resetReq := rfl
@[simp] theorem State.dropStall_coldReset : s.dropStall.coldReset = s.coldReset := rfl
@[simp] theorem State.dropStall_stuck : s.dropStall.stuck = s.stuck := rfl
@[simp] theorem State.dropStall_openBus : s.dropStall.openBus = s.openBus := rfl
@[simp] theorem State.dropStall_ram : s.dropStall.ram = s.ram := rfl
@[simp] theorem State.dropStall_dma : s.dropStall.dma = [] := rfl
@[simp] theorem State.dropStall_ppu : s.dropStall.ppu = s.ppu := rfl
@[simp] theorem State.dropStall_apu : s.dropStall.apu = s.apu := rfl
@[simp] theorem State.dropStall_pads : s.dropStall.pads = s.pads := rfl
@[simp] theorem State.dropStall_cart : s.dropStall.cart = s.cart := rfl
@[simp] theorem State.dropStall_params : s.dropStall.params = s.params := rfl
@[simp] theorem State.dropStall_free : s.dropStall.free = s.free := rfl

@[simp] theorem State.setNZ_p : (s.setNZ v).p = s.p.setNZ v := rfl
@[simp] theorem State.setNZ_a : (s.setNZ v).a = s.a := rfl
@[simp] theorem State.setNZ_x : (s.setNZ v).x = s.x := rfl
@[simp] theorem State.setNZ_y : (s.setNZ v).y = s.y := rfl
@[simp] theorem State.setNZ_s : (s.setNZ v).s = s.s := rfl
@[simp] theorem State.setNZ_pc : (s.setNZ v).pc = s.pc := rfl
@[simp] theorem State.setNZ_cycles : (s.setNZ v).cycles = s.cycles := rfl
@[simp] theorem State.setNZ_nmiPrev : (s.setNZ v).nmiPrev = s.nmiPrev := rfl
@[simp] theorem State.setNZ_nmiPending : (s.setNZ v).nmiPending = s.nmiPending := rfl
@[simp] theorem State.setNZ_irqSample : (s.setNZ v).irqSample = s.irqSample := rfl
@[simp] theorem State.setNZ_stall : (s.setNZ v).stall = s.stall := rfl
@[simp] theorem State.setNZ_resetReq : (s.setNZ v).resetReq = s.resetReq := rfl
@[simp] theorem State.setNZ_coldReset : (s.setNZ v).coldReset = s.coldReset := rfl
@[simp] theorem State.setNZ_stuck : (s.setNZ v).stuck = s.stuck := rfl
@[simp] theorem State.setNZ_openBus : (s.setNZ v).openBus = s.openBus := rfl
@[simp] theorem State.setNZ_ram : (s.setNZ v).ram = s.ram := rfl
@[simp] theorem State.setNZ_dma : (s.setNZ v).dma = s.dma := rfl
@[simp] theorem State.setNZ_ppu : (s.setNZ v).ppu = s.ppu := rfl
@[simp] theorem State.setNZ_apu : (s.setNZ v).apu = s.apu := rfl
@[simp] theorem State.setNZ_pads : (s.setNZ v).pads = s.pads := rfl
@[simp] theorem State.setNZ_cart : (s.setNZ v).cart = s.cart := rfl
@[simp] theorem State.setNZ_params : (s.setNZ v).params = s.params := rfl
@[simp] theorem State.setNZ_free : (s.setNZ v).free = s.free := rfl

end Sys2Proof.Machine
end

