-- ==== Sys2Proof/Laws/Bus.lean ====
section
/-! SUPPORT. What each bus operation leaves of the core: a bus cycle changes no register, no flag, no parameter, no host
request, and takes one cycle (rules R61, R322). -/

namespace Sys2Proof.Machine

/-- The part of the state no bus cycle touches. -/
def State.core (s : State) : (Byte × Byte × Byte × Byte × Word × Flags) × Params × Bool × Option Byte × Bool :=
  ((s.a, s.x, s.y, s.s, s.pc, s.p), s.params, s.resetReq, s.stuck, s.coldReset)

theorem endCycle_core (s : State) : (endCycle s).core = s.core := rfl

theorem deviceRead_core (a : Nat) (s : State) : (deviceRead a s).2.core = s.core := by
  unfold deviceRead
  split_ifs <;> rfl

theorem deviceWrite_core (a : Nat) (d : Byte) (s : State) : (deviceWrite a d s).core = s.core := by
  unfold deviceWrite
  split_ifs <;> rfl

theorem busRead_core (a : Word) (s : State) : (busRead a s).2.core = s.core := deviceRead_core a.toNat s

theorem busWrite_core (a : Word) (d : Byte) (s : State) : (busWrite a d s).core = s.core := deviceWrite_core a.toNat d s

theorem memRead_core (a : Word) (s : State) : (memRead a s).2.core = s.core := busRead_core a s

theorem memWrite_core (a : Word) (d : Byte) (s : State) : (memWrite a d s).core = s.core := busWrite_core a d s

theorem dummyRead_core (a : Word) (s : State) : (dummyRead a s).core = s.core := busRead_core a s

section
variable (a : Word) (d : Byte) (s : State)

@[simp] theorem endCycle_a : (endCycle s).a = s.a := congrArg (fun k => k.1.1) (endCycle_core s)
@[simp] theorem endCycle_x : (endCycle s).x = s.x := congrArg (fun k => k.1.2.1) (endCycle_core s)
@[simp] theorem endCycle_y : (endCycle s).y = s.y := congrArg (fun k => k.1.2.2.1) (endCycle_core s)
@[simp] theorem endCycle_s : (endCycle s).s = s.s := congrArg (fun k => k.1.2.2.2.1) (endCycle_core s)
@[simp] theorem endCycle_pc : (endCycle s).pc = s.pc := congrArg (fun k => k.1.2.2.2.2.1) (endCycle_core s)
@[simp] theorem endCycle_p : (endCycle s).p = s.p := congrArg (fun k => k.1.2.2.2.2.2) (endCycle_core s)
@[simp] theorem endCycle_params : (endCycle s).params = s.params := congrArg (fun k => k.2.1) (endCycle_core s)
@[simp] theorem endCycle_resetReq : (endCycle s).resetReq = s.resetReq := congrArg (fun k => k.2.2.1) (endCycle_core s)
@[simp] theorem endCycle_stuck : (endCycle s).stuck = s.stuck := congrArg (fun k => k.2.2.2.1) (endCycle_core s)
@[simp] theorem endCycle_coldReset : (endCycle s).coldReset = s.coldReset := congrArg (fun k => k.2.2.2.2) (endCycle_core s)

@[simp] theorem busRead_a : (busRead a s).2.a = s.a := congrArg (fun k => k.1.1) (busRead_core a s)
@[simp] theorem busRead_x : (busRead a s).2.x = s.x := congrArg (fun k => k.1.2.1) (busRead_core a s)
@[simp] theorem busRead_y : (busRead a s).2.y = s.y := congrArg (fun k => k.1.2.2.1) (busRead_core a s)
@[simp] theorem busRead_s : (busRead a s).2.s = s.s := congrArg (fun k => k.1.2.2.2.1) (busRead_core a s)
@[simp] theorem busRead_pc : (busRead a s).2.pc = s.pc := congrArg (fun k => k.1.2.2.2.2.1) (busRead_core a s)
@[simp] theorem busRead_p : (busRead a s).2.p = s.p := congrArg (fun k => k.1.2.2.2.2.2) (busRead_core a s)
@[simp] theorem busRead_params : (busRead a s).2.params = s.params := congrArg (fun k => k.2.1) (busRead_core a s)
@[simp] theorem busRead_resetReq : (busRead a s).2.resetReq = s.resetReq := congrArg (fun k => k.2.2.1) (busRead_core a s)
@[simp] theorem busRead_stuck : (busRead a s).2.stuck = s.stuck := congrArg (fun k => k.2.2.2.1) (busRead_core a s)
@[simp] theorem busRead_coldReset : (busRead a s).2.coldReset = s.coldReset := congrArg (fun k => k.2.2.2.2) (busRead_core a s)

@[simp] theorem busWrite_a : (busWrite a d s).a = s.a := congrArg (fun k => k.1.1) (busWrite_core a d s)
@[simp] theorem busWrite_x : (busWrite a d s).x = s.x := congrArg (fun k => k.1.2.1) (busWrite_core a d s)
@[simp] theorem busWrite_y : (busWrite a d s).y = s.y := congrArg (fun k => k.1.2.2.1) (busWrite_core a d s)
@[simp] theorem busWrite_s : (busWrite a d s).s = s.s := congrArg (fun k => k.1.2.2.2.1) (busWrite_core a d s)
@[simp] theorem busWrite_pc : (busWrite a d s).pc = s.pc := congrArg (fun k => k.1.2.2.2.2.1) (busWrite_core a d s)
@[simp] theorem busWrite_p : (busWrite a d s).p = s.p := congrArg (fun k => k.1.2.2.2.2.2) (busWrite_core a d s)
@[simp] theorem busWrite_params : (busWrite a d s).params = s.params := congrArg (fun k => k.2.1) (busWrite_core a d s)
@[simp] theorem busWrite_resetReq : (busWrite a d s).resetReq = s.resetReq := congrArg (fun k => k.2.2.1) (busWrite_core a d s)
@[simp] theorem busWrite_stuck : (busWrite a d s).stuck = s.stuck := congrArg (fun k => k.2.2.2.1) (busWrite_core a d s)
@[simp] theorem busWrite_coldReset : (busWrite a d s).coldReset = s.coldReset := congrArg (fun k => k.2.2.2.2) (busWrite_core a d s)

@[simp] theorem memRead_a : (memRead a s).2.a = s.a := congrArg (fun k => k.1.1) (memRead_core a s)
@[simp] theorem memRead_x : (memRead a s).2.x = s.x := congrArg (fun k => k.1.2.1) (memRead_core a s)
@[simp] theorem memRead_y : (memRead a s).2.y = s.y := congrArg (fun k => k.1.2.2.1) (memRead_core a s)
@[simp] theorem memRead_s : (memRead a s).2.s = s.s := congrArg (fun k => k.1.2.2.2.1) (memRead_core a s)
@[simp] theorem memRead_pc : (memRead a s).2.pc = s.pc := congrArg (fun k => k.1.2.2.2.2.1) (memRead_core a s)
@[simp] theorem memRead_p : (memRead a s).2.p = s.p := congrArg (fun k => k.1.2.2.2.2.2) (memRead_core a s)
@[simp] theorem memRead_params : (memRead a s).2.params = s.params := congrArg (fun k => k.2.1) (memRead_core a s)
@[simp] theorem memRead_resetReq : (memRead a s).2.resetReq = s.resetReq := congrArg (fun k => k.2.2.1) (memRead_core a s)
@[simp] theorem memRead_stuck : (memRead a s).2.stuck = s.stuck := congrArg (fun k => k.2.2.2.1) (memRead_core a s)
@[simp] theorem memRead_coldReset : (memRead a s).2.coldReset = s.coldReset := congrArg (fun k => k.2.2.2.2) (memRead_core a s)

@[simp] theorem memWrite_a : (memWrite a d s).a = s.a := congrArg (fun k => k.1.1) (memWrite_core a d s)
@[simp] theorem memWrite_x : (memWrite a d s).x = s.x := congrArg (fun k => k.1.2.1) (memWrite_core a d s)
@[simp] theorem memWrite_y : (memWrite a d s).y = s.y := congrArg (fun k => k.1.2.2.1) (memWrite_core a d s)
@[simp] theorem memWrite_s : (memWrite a d s).s = s.s := congrArg (fun k => k.1.2.2.2.1) (memWrite_core a d s)
@[simp] theorem memWrite_pc : (memWrite a d s).pc = s.pc := congrArg (fun k => k.1.2.2.2.2.1) (memWrite_core a d s)
@[simp] theorem memWrite_p : (memWrite a d s).p = s.p := congrArg (fun k => k.1.2.2.2.2.2) (memWrite_core a d s)
@[simp] theorem memWrite_params : (memWrite a d s).params = s.params := congrArg (fun k => k.2.1) (memWrite_core a d s)
@[simp] theorem memWrite_resetReq : (memWrite a d s).resetReq = s.resetReq := congrArg (fun k => k.2.2.1) (memWrite_core a d s)
@[simp] theorem memWrite_stuck : (memWrite a d s).stuck = s.stuck := congrArg (fun k => k.2.2.2.1) (memWrite_core a d s)
@[simp] theorem memWrite_coldReset : (memWrite a d s).coldReset = s.coldReset := congrArg (fun k => k.2.2.2.2) (memWrite_core a d s)

@[simp] theorem dummyRead_a : (dummyRead a s).a = s.a := congrArg (fun k => k.1.1) (dummyRead_core a s)
@[simp] theorem dummyRead_x : (dummyRead a s).x = s.x := congrArg (fun k => k.1.2.1) (dummyRead_core a s)
@[simp] theorem dummyRead_y : (dummyRead a s).y = s.y := congrArg (fun k => k.1.2.2.1) (dummyRead_core a s)
@[simp] theorem dummyRead_s : (dummyRead a s).s = s.s := congrArg (fun k => k.1.2.2.2.1) (dummyRead_core a s)
@[simp] theorem dummyRead_pc : (dummyRead a s).pc = s.pc := congrArg (fun k => k.1.2.2.2.2.1) (dummyRead_core a s)
@[simp] theorem dummyRead_p : (dummyRead a s).p = s.p := congrArg (fun k => k.1.2.2.2.2.2) (dummyRead_core a s)
@[simp] theorem dummyRead_params : (dummyRead a s).params = s.params := congrArg (fun k => k.2.1) (dummyRead_core a s)
@[simp] theorem dummyRead_resetReq : (dummyRead a s).resetReq = s.resetReq := congrArg (fun k => k.2.2.1) (dummyRead_core a s)
@[simp] theorem dummyRead_stuck : (dummyRead a s).stuck = s.stuck := congrArg (fun k => k.2.2.2.1) (dummyRead_core a s)
@[simp] theorem dummyRead_coldReset : (dummyRead a s).coldReset = s.coldReset := congrArg (fun k => k.2.2.2.2) (dummyRead_core a s)

/-- From 0x4020 on a read is the cartridge's, or the latch where it drives nothing (rule R65). -/
theorem deviceRead_cart {n : Nat} (h : 0x4020 ≤ n) : deviceRead n s = ((s.cart.cpuRead? n).getD s.openBus, s) := by
  unfold deviceRead
  split_ifs <;> first | omega | rfl

/-- From 0x4020 on a write is the cartridge's (rule R65). -/
theorem deviceWrite_cart {n : Nat} (h : 0x4020 ≤ n) :
    deviceWrite n d s = { s with cart := s.cart.cpuWrite n d s.cycles } := by
  unfold deviceWrite
  split_ifs <;> first | omega | rfl

/-- A read at 0x8000 to 0xFFFF shows the PRG byte the mapper selects (rules R370, R371). -/
theorem busRead_prg {a : Word} (h : 0x8000 ≤ a.toNat) (hb : 0 < s.cart.prgBanks) :
    (busRead a s).1 = s.cart.prg.read (s.cart.prgOffset a.toNat) := by
  have h1 : ¬ a.toNat < 0x6000 := by omega
  have h2 : ¬ a.toNat < 0x8000 := by omega
  simp [busRead, deviceRead_cart s (show 0x4020 ≤ a.toNat by omega), Cart.cpuRead?, h1, h2, Nat.ne_of_gt hb]

theorem deviceRead_cycles (n : Nat) : (deviceRead n s).2.cycles = s.cycles := by
  unfold deviceRead
  split_ifs <;> rfl

theorem deviceWrite_cycles (n : Nat) : (deviceWrite n d s).cycles = s.cycles := by
  unfold deviceWrite
  split_ifs <;> rfl

@[simp] theorem endCycle_cycles : (endCycle s).cycles = s.cycles + 1#64 := rfl
@[simp] theorem busRead_cycles : (busRead a s).2.cycles = s.cycles := deviceRead_cycles s a.toNat
@[simp] theorem busWrite_cycles : (busWrite a d s).cycles = s.cycles := deviceWrite_cycles d s a.toNat
@[simp] theorem memRead_cycles : (memRead a s).2.cycles = s.cycles + 1#64 := by simp [memRead]
@[simp] theorem memWrite_cycles : (memWrite a d s).cycles = s.cycles + 1#64 := by simp [memWrite]
@[simp] theorem dummyRead_cycles : (dummyRead a s).cycles = s.cycles + 1#64 := by simp [dummyRead]

@[simp] theorem fetch_a : (fetch s).2.a = s.a := by simp [fetch]
@[simp] theorem fetch_x : (fetch s).2.x = s.x := by simp [fetch]
@[simp] theorem fetch_y : (fetch s).2.y = s.y := by simp [fetch]
@[simp] theorem fetch_s : (fetch s).2.s = s.s := by simp [fetch]
@[simp] theorem fetch_pc : (fetch s).2.pc = s.pc + 1#16 := by simp [fetch]
@[simp] theorem fetch_p : (fetch s).2.p = s.p := by simp [fetch]
@[simp] theorem fetch_params : (fetch s).2.params = s.params := by simp [fetch]
@[simp] theorem fetch_resetReq : (fetch s).2.resetReq = s.resetReq := by simp [fetch]
@[simp] theorem fetch_stuck : (fetch s).2.stuck = s.stuck := by simp [fetch]
@[simp] theorem fetch_coldReset : (fetch s).2.coldReset = s.coldReset := by simp [fetch]
@[simp] theorem fetch_cycles : (fetch s).2.cycles = s.cycles + 1#64 := by simp [fetch]

@[simp] theorem push_a : (push d s).a = s.a := by simp [push]
@[simp] theorem push_x : (push d s).x = s.x := by simp [push]
@[simp] theorem push_y : (push d s).y = s.y := by simp [push]
@[simp] theorem push_s : (push d s).s = s.s - 1#8 := by simp [push]
@[simp] theorem push_pc : (push d s).pc = s.pc := by simp [push]
@[simp] theorem push_p : (push d s).p = s.p := by simp [push]
@[simp] theorem push_params : (push d s).params = s.params := by simp [push]
@[simp] theorem push_resetReq : (push d s).resetReq = s.resetReq := by simp [push]
@[simp] theorem push_stuck : (push d s).stuck = s.stuck := by simp [push]
@[simp] theorem push_coldReset : (push d s).coldReset = s.coldReset := by simp [push]
@[simp] theorem push_cycles : (push d s).cycles = s.cycles + 1#64 := by simp [push]

@[simp] theorem pull_a : (pull s).2.a = s.a := by simp [pull]
@[simp] theorem pull_x : (pull s).2.x = s.x := by simp [pull]
@[simp] theorem pull_y : (pull s).2.y = s.y := by simp [pull]
@[simp] theorem pull_s : (pull s).2.s = s.s + 1#8 := by simp [pull]
@[simp] theorem pull_pc : (pull s).2.pc = s.pc := by simp [pull]
@[simp] theorem pull_p : (pull s).2.p = s.p := by simp [pull]
@[simp] theorem pull_params : (pull s).2.params = s.params := by simp [pull]
@[simp] theorem pull_resetReq : (pull s).2.resetReq = s.resetReq := by simp [pull]
@[simp] theorem pull_stuck : (pull s).2.stuck = s.stuck := by simp [pull]
@[simp] theorem pull_coldReset : (pull s).2.coldReset = s.coldReset := by simp [pull]
@[simp] theorem pull_cycles : (pull s).2.cycles = s.cycles + 1#64 := by simp [pull]

@[simp] theorem implied_a : (implied s).a = s.a := by simp [implied]
@[simp] theorem implied_x : (implied s).x = s.x := by simp [implied]
@[simp] theorem implied_y : (implied s).y = s.y := by simp [implied]
@[simp] theorem implied_s : (implied s).s = s.s := by simp [implied]
@[simp] theorem implied_pc : (implied s).pc = s.pc := by simp [implied]
@[simp] theorem implied_p : (implied s).p = s.p := by simp [implied]
@[simp] theorem implied_params : (implied s).params = s.params := by simp [implied]
@[simp] theorem implied_resetReq : (implied s).resetReq = s.resetReq := by simp [implied]
@[simp] theorem implied_stuck : (implied s).stuck = s.stuck := by simp [implied]
@[simp] theorem implied_coldReset : (implied s).coldReset = s.coldReset := by simp [implied]
@[simp] theorem implied_cycles : (implied s).cycles = s.cycles + 1#64 := by simp [implied]

end

end Sys2Proof.Machine
end

