-- ==== Sys2Proof/Laws/Run.lean ====
section
/-! SUPPORT. Said once, what an instruction can do: every instruction and every interrupt sequence is a run of bus reads,
bus writes and register writes (rules R61, R163). Each invariant follows by one induction over such a run. -/

namespace Sys2Proof.Machine

/-- A run of bus cycles and register writes. -/
inductive BusRun : State → State → Prop
  | refl (s : State) : BusRun s s
  | read {s t : State} (a : Word) : BusRun s t → BusRun s (memRead a t).2
  | write {s t : State} (a : Word) (d : Byte) : BusRun s t → BusRun s (memWrite a d t)
  | regs {s t : State} (a x y sp : Byte) (pc : Word) (p : Flags) : BusRun s t →
      BusRun s { t with a := a, x := x, y := y, s := sp, pc := pc, p := p }
  | clearNmi {s t : State} : BusRun s t → BusRun s { t with nmiPending := false }
  | stick {s t : State} (op : Byte) : t.params.unstable = .refuse ∨ t.params.jam = .refuse → BusRun s t →
      BusRun s { t with stuck := some op }

namespace BusRun

theorem trans {s t u : State} (h : BusRun s t) (k : BusRun t u) : BusRun s u := by
  induction k with
  | refl => exact h
  | read a _ ih => exact ih.read a
  | write a d _ ih => exact ih.write a d
  | regs a x y sp pc p _ ih => exact ih.regs a x y sp pc p
  | clearNmi _ ih => exact ih.clearNmi
  | stick op hp _ ih => exact ih.stick op hp

variable {s t : State}

theorem setA (h : BusRun s t) (v : Byte) : BusRun s (t.setA v) := h.regs v t.x t.y t.s t.pc t.p
theorem setX (h : BusRun s t) (v : Byte) : BusRun s (t.setX v) := h.regs t.a v t.y t.s t.pc t.p
theorem setY (h : BusRun s t) (v : Byte) : BusRun s (t.setY v) := h.regs t.a t.x v t.s t.pc t.p
theorem setS (h : BusRun s t) (v : Byte) : BusRun s (t.setS v) := h.regs t.a t.x t.y v t.pc t.p
theorem setPc (h : BusRun s t) (v : Word) : BusRun s (t.setPc v) := h.regs t.a t.x t.y t.s v t.p
theorem setP (h : BusRun s t) (v : Flags) : BusRun s (t.setP v) := h.regs t.a t.x t.y t.s t.pc v
theorem setNZ (h : BusRun s t) (v : Byte) : BusRun s (t.setNZ v) := h.setP _
theorem addA (h : BusRun s t) (v : Byte) : BusRun s (t.addA v) := (h.setA _).setP _
theorem compare (h : BusRun s t) (r m : Byte) : BusRun s (t.compare r m) := h.setP _
theorem combine (h : BusRun s t) (q : ShiftResult) (v : Byte) : BusRun s (t.combine q v) := (h.setA _).setP _
theorem dummyRead (h : BusRun s t) (a : Word) : BusRun s (dummyRead a t) := h.read a
theorem implied (h : BusRun s t) : BusRun s (implied t) := h.read t.pc
theorem fetch (h : BusRun s t) : BusRun s (fetch t).2 := (h.read t.pc).setPc _
theorem push (h : BusRun s t) (d : Byte) : BusRun s (push d t) := (h.write _ d).setS _
theorem pull (h : BusRun s t) : BusRun s (pull t).2 := (h.setS _).read _
theorem pullWord (h : BusRun s t) : BusRun s (pullWord t).2 := h.pull.pull
theorem pushPc (h : BusRun s t) : BusRun s (pushPc t) := (h.push _).push _
theorem loadVector (h : BusRun s t) (v : Word) : BusRun s (loadVector v t) := ((h.read v).read _).setPc _
theorem zeroPagePointer (h : BusRun s t) (q : Byte) : BusRun s (zeroPagePointer q t).2 := (h.read _).read _

theorem addressPhase (h : BusRun s t) (o : Operand) : BusRun s (addressPhase o t).2 := by
  cases o with
  | zpx a => exact h.dummyRead _
  | zpy a => exact h.dummyRead _
  | izx q => exact (h.dummyRead _).zeroPagePointer _
  | izy q => exact h.zeroPagePointer _
  | _ => exact h

theorem readOperand (h : BusRun s t) (src : Source) : BusRun s (readOperand src t).2 := by
  cases src with
  | imm m => exact h
  | mem o =>
    unfold Machine.readOperand
    dsimp only
    split
    · exact ((h.addressPhase o).read _).read _
    · exact (h.addressPhase o).read _

theorem writeAddress (h : BusRun s t) (o : Operand) : BusRun s (writeAddress o t).2 := by
  unfold Machine.writeAddress
  dsimp only
  split
  · exact (h.addressPhase o).dummyRead _
  · exact h.addressPhase o

theorem readThen (h : BusRun s t) (src : Source) {f : Byte → State → State}
    (hf : ∀ m u, BusRun s u → BusRun s (f m u)) : BusRun s (readThen src f t) :=
  hf _ _ (h.readOperand src)

theorem impliedThen (h : BusRun s t) {f : State → State} (hf : ∀ u, BusRun s u → BusRun s (f u)) :
    BusRun s (impliedThen f t) :=
  hf _ h.implied

theorem writeOperand (h : BusRun s t) (o : Operand) (v : Byte) : BusRun s (writeOperand o v t) :=
  (h.writeAddress o).write _ v

theorem modifyOperand (h : BusRun s t) (o : Operand) {f : Byte → State → Byte × State}
    (hf : ∀ m u, BusRun s u → BusRun s (f m u).2) : BusRun s (modifyOperand o f t) :=
  (hf _ _ (((h.writeAddress o).read _).write _ _)).write _ _

theorem modifyAcc (h : BusRun s t) {f : Byte → State → Byte × State}
    (hf : ∀ m u, BusRun s u → BusRun s (f m u).2) : BusRun s (modifyAcc f t) :=
  (hf _ _ h.implied).setA _

theorem nopWriteOperand (h : BusRun s t) (o : Operand) : BusRun s (nopWriteOperand o t) :=
  (h.writeAddress o).dummyRead _

theorem enterVector (h : BusRun s t) (b : Bool) (v : Word) : BusRun s (enterVector b v t) :=
  ((h.push _).setP _).loadVector v

theorem enterInterrupt (h : BusRun s t) (b : Bool) : BusRun s (enterInterrupt b t) :=
  (h.pushPc.clearNmi).enterVector b _

theorem irqSequence (s : State) : BusRun s (irqSequence s) :=
  (((refl s).dummyRead _).dummyRead _).enterInterrupt false

theorem nmiSequence (s : State) : BusRun s (nmiSequence s) :=
  ((((refl s).clearNmi.dummyRead _).dummyRead _).pushPc).enterVector false _

theorem returnFromInterrupt (h : BusRun s t) : BusRun s (returnFromInterrupt t) :=
  (((h.dummyRead _).dummyRead _).pull.setP _).pullWord.setPc _

theorem branch (h : BusRun s t) (c : Bool) (off : Byte) : BusRun s (branch c off t) := by
  unfold Machine.branch
  split
  · dsimp only
    split
    · exact (h.dummyRead _).setPc _
    · exact ((h.dummyRead _).dummyRead _).setPc _
  · exact h

end BusRun

/-- A run changes neither the parameters nor the host's reset request. -/
theorem BusRun.params {s t : State} (r : BusRun s t) : t.params = s.params := by
  induction r with
  | refl => rfl
  | read a _ ih => exact (memRead_params a _).trans ih
  | write a d _ ih => exact (memWrite_params a d _).trans ih
  | regs _ _ _ _ _ _ _ ih => exact ih
  | clearNmi _ ih => exact ih
  | stick _ _ _ ih => exact ih

/-- With both policies `nop` a run never sticks. -/
theorem BusRun.stuck {s t : State} (r : BusRun s t) (hu : s.params.unstable = .nop) (hj : s.params.jam = .nop) :
    t.stuck = s.stuck := by
  induction r with
  | refl => rfl
  | read a _ ih => exact (memRead_stuck a _).trans ih
  | write a d _ ih => exact (memWrite_stuck a d _).trans ih
  | regs _ _ _ _ _ _ _ ih => exact ih
  | clearNmi _ ih => exact ih
  | stick _ hp r _ =>
    rw [r.params, hu, hj] at hp
    obtain h | h := hp <;> cases h

/-- A meaning that answers a next state reached by a run. -/
def Runs (s : State) (r : Result) : Prop := ∃ t, r = .next t ∧ BusRun s t

theorem Runs.next {s t : State} (h : BusRun s t) : Runs s (.next t) := ⟨t, rfl, h⟩

theorem Runs.underPolicy {s : State} {q : OpcodePolicy} (op : Byte) {f : State → State}
    (hq : q = .refuse → s.params.unstable = .refuse ∨ s.params.jam = .refuse) (h : BusRun s (f s)) :
    Runs s (underPolicy q op f s) := by
  cases q with
  | nop => exact .next h
  | refuse => exact .next ((BusRun.refl s).stick op (hq rfl))

/-! One lemma per shared operation. -/

section
variable (s : State)

theorem opLda_run (src : Source) : BusRun s (opLda src s) := (BusRun.refl s).readThen src fun _ _ h => (h.setA _).setNZ _
theorem opLdx_run (src : Source) : BusRun s (opLdx src s) := (BusRun.refl s).readThen src fun _ _ h => (h.setX _).setNZ _
theorem opLdy_run (src : Source) : BusRun s (opLdy src s) := (BusRun.refl s).readThen src fun _ _ h => (h.setY _).setNZ _
theorem opAdc_run (src : Source) : BusRun s (opAdc src s) := (BusRun.refl s).readThen src fun _ _ h => h.addA _
theorem opSbc_run (src : Source) : BusRun s (opSbc src s) := (BusRun.refl s).readThen src fun _ _ h => h.addA _
theorem opAnd_run (src : Source) : BusRun s (opAnd src s) := (BusRun.refl s).readThen src fun _ _ h => (h.setA _).setNZ _
theorem opOra_run (src : Source) : BusRun s (opOra src s) := (BusRun.refl s).readThen src fun _ _ h => (h.setA _).setNZ _
theorem opEor_run (src : Source) : BusRun s (opEor src s) := (BusRun.refl s).readThen src fun _ _ h => (h.setA _).setNZ _
theorem opCmp_run (src : Source) : BusRun s (opCmp src s) := (BusRun.refl s).readThen src fun _ _ h => h.compare _ _
theorem opCpx_run (src : Source) : BusRun s (opCpx src s) := (BusRun.refl s).readThen src fun _ _ h => h.compare _ _
theorem opCpy_run (src : Source) : BusRun s (opCpy src s) := (BusRun.refl s).readThen src fun _ _ h => h.compare _ _
theorem opBit_run (src : Source) : BusRun s (opBit src s) := (BusRun.refl s).readThen src fun _ _ h => h.setP _
theorem opLax_run (src : Source) : BusRun s (opLax src s) := (BusRun.refl s).readThen src fun _ _ h => ((h.setA _).setX _).setNZ _
theorem opAlr_run (src : Source) : BusRun s (opAlr src s) := (BusRun.refl s).readThen src fun _ _ h => (h.setA _).setP _
theorem opAnc_run (src : Source) : BusRun s (opAnc src s) := (BusRun.refl s).readThen src fun _ _ h => (h.setA _).setP _
theorem opArr_run (src : Source) : BusRun s (opArr src s) := (BusRun.refl s).readThen src fun _ _ h => (h.setA _).setP _
theorem opAxs_run (src : Source) : BusRun s (opAxs src s) := (BusRun.refl s).readThen src fun _ _ h => (h.setX _).compare _ _
theorem opNop_run (src : Source) : BusRun s (opNop src s) := (BusRun.refl s).readThen src fun _ _ h => h
theorem opInc_run (o : Operand) : BusRun s (opInc o s) := (BusRun.refl s).modifyOperand o fun _ _ h => h.setNZ _
theorem opDec_run (o : Operand) : BusRun s (opDec o s) := (BusRun.refl s).modifyOperand o fun _ _ h => h.setNZ _
theorem opAsl_run (o : Operand) : BusRun s (opAsl o s) := (BusRun.refl s).modifyOperand o fun _ _ h => h.setP _
theorem opLsr_run (o : Operand) : BusRun s (opLsr o s) := (BusRun.refl s).modifyOperand o fun _ _ h => h.setP _
theorem opRol_run (o : Operand) : BusRun s (opRol o s) := (BusRun.refl s).modifyOperand o fun _ _ h => h.setP _
theorem opRor_run (o : Operand) : BusRun s (opRor o s) := (BusRun.refl s).modifyOperand o fun _ _ h => h.setP _
theorem opDcp_run (o : Operand) : BusRun s (opDcp o s) := (BusRun.refl s).modifyOperand o fun _ _ h => h.compare _ _
theorem opIsc_run (o : Operand) : BusRun s (opIsc o s) := (BusRun.refl s).modifyOperand o fun _ _ h => h.addA _
theorem opSlo_run (o : Operand) : BusRun s (opSlo o s) := (BusRun.refl s).modifyOperand o fun _ _ h => h.combine _ _
theorem opRla_run (o : Operand) : BusRun s (opRla o s) := (BusRun.refl s).modifyOperand o fun _ _ h => h.combine _ _
theorem opSre_run (o : Operand) : BusRun s (opSre o s) := (BusRun.refl s).modifyOperand o fun _ _ h => h.combine _ _
theorem opRra_run (o : Operand) : BusRun s (opRra o s) := (BusRun.refl s).modifyOperand o fun _ _ h => (h.setP _).addA _
theorem opAslAcc_run : BusRun s (opAslAcc s) := (BusRun.refl s).modifyAcc fun _ _ h => h.setP _
theorem opLsrAcc_run : BusRun s (opLsrAcc s) := (BusRun.refl s).modifyAcc fun _ _ h => h.setP _
theorem opRolAcc_run : BusRun s (opRolAcc s) := (BusRun.refl s).modifyAcc fun _ _ h => h.setP _
theorem opRorAcc_run : BusRun s (opRorAcc s) := (BusRun.refl s).modifyAcc fun _ _ h => h.setP _
theorem opSta_run (o : Operand) : BusRun s (opSta o s) := (BusRun.refl s).writeOperand o _
theorem opStx_run (o : Operand) : BusRun s (opStx o s) := (BusRun.refl s).writeOperand o _
theorem opSty_run (o : Operand) : BusRun s (opSty o s) := (BusRun.refl s).writeOperand o _
theorem opSax_run (o : Operand) : BusRun s (opSax o s) := (BusRun.refl s).writeOperand o _
theorem opTax_run : BusRun s (opTax s) := (BusRun.refl s).impliedThen fun _ h => (h.setX _).setNZ _
theorem opTay_run : BusRun s (opTay s) := (BusRun.refl s).impliedThen fun _ h => (h.setY _).setNZ _
theorem opTxa_run : BusRun s (opTxa s) := (BusRun.refl s).impliedThen fun _ h => (h.setA _).setNZ _
theorem opTya_run : BusRun s (opTya s) := (BusRun.refl s).impliedThen fun _ h => (h.setA _).setNZ _
theorem opTsx_run : BusRun s (opTsx s) := (BusRun.refl s).impliedThen fun _ h => (h.setX _).setNZ _
theorem opTxs_run : BusRun s (opTxs s) := (BusRun.refl s).impliedThen fun _ h => h.setS _
theorem opInx_run : BusRun s (opInx s) := (BusRun.refl s).impliedThen fun _ h => (h.setX _).setNZ _
theorem opIny_run : BusRun s (opIny s) := (BusRun.refl s).impliedThen fun _ h => (h.setY _).setNZ _
theorem opDex_run : BusRun s (opDex s) := (BusRun.refl s).impliedThen fun _ h => (h.setX _).setNZ _
theorem opDey_run : BusRun s (opDey s) := (BusRun.refl s).impliedThen fun _ h => (h.setY _).setNZ _
theorem opClc_run : BusRun s (opClc s) := (BusRun.refl s).impliedThen fun _ h => h.setP _
theorem opSec_run : BusRun s (opSec s) := (BusRun.refl s).impliedThen fun _ h => h.setP _
theorem opCli_run : BusRun s (opCli s) := (BusRun.refl s).impliedThen fun _ h => h.setP _
theorem opSei_run : BusRun s (opSei s) := (BusRun.refl s).impliedThen fun _ h => h.setP _
theorem opCld_run : BusRun s (opCld s) := (BusRun.refl s).impliedThen fun _ h => h.setP _
theorem opSed_run : BusRun s (opSed s) := (BusRun.refl s).impliedThen fun _ h => h.setP _
theorem opClv_run : BusRun s (opClv s) := (BusRun.refl s).impliedThen fun _ h => h.setP _
theorem opPha_run : BusRun s (opPha s) := (BusRun.refl s).implied.push _
theorem opPhp_run : BusRun s (opPhp s) := (BusRun.refl s).implied.push _
theorem opPla_run : BusRun s (opPla s) := (((BusRun.refl s).implied.dummyRead _).pull.setA _).setNZ _
theorem opPlp_run : BusRun s (opPlp s) := ((BusRun.refl s).implied.dummyRead _).pull.setP _
theorem jmpAbs_run (w : Word) : BusRun s (jmpAbs w s) := (BusRun.refl s).setPc w
theorem jmpInd_run (w : Word) : BusRun s (jmpInd w s) := (((BusRun.refl s).read _).read _).setPc _
theorem opJsr_run (w : Word) : BusRun s (opJsr w s) := (((BusRun.refl s).dummyRead _).pushPc.read _).setPc _
theorem opRts_run : BusRun s (opRts s) := (((BusRun.refl s).implied.dummyRead _).pullWord.dummyRead _).setPc _

end

/-- Every instruction completes, by a run of bus cycles and register writes. -/
theorem exec_runs (i : Instr) (s : State) : Runs s (exec i s) :=
  match i with
  | .brk _ => .next ((BusRun.refl s).enterInterrupt true)
  | .oraIzx _ => .next (opOra_run s _)
  | .sloIzx _ => .next (opSlo_run s _)
  | .nopZp04 _ => .next (opNop_run s _)
  | .oraZp _ => .next (opOra_run s _)
  | .aslZp _ => .next (opAsl_run s _)
  | .sloZp _ => .next (opSlo_run s _)
  | .oraImm _ => .next (opOra_run s _)
  | .ancImm0B _ => .next (opAnc_run s _)
  | .nopAbs _ => .next (opNop_run s _)
  | .oraAbs _ => .next (opOra_run s _)
  | .aslAbs _ => .next (opAsl_run s _)
  | .sloAbs _ => .next (opSlo_run s _)
  | .bpl _ => .next ((BusRun.refl s).branch _ _)
  | .oraIzy _ => .next (opOra_run s _)
  | .sloIzy _ => .next (opSlo_run s _)
  | .nopZpx14 _ => .next (opNop_run s _)
  | .oraZpx _ => .next (opOra_run s _)
  | .aslZpx _ => .next (opAsl_run s _)
  | .sloZpx _ => .next (opSlo_run s _)
  | .oraAbsy _ => .next (opOra_run s _)
  | .sloAbsy _ => .next (opSlo_run s _)
  | .nopAbsx1C _ => .next (opNop_run s _)
  | .oraAbsx _ => .next (opOra_run s _)
  | .aslAbsx _ => .next (opAsl_run s _)
  | .sloAbsx _ => .next (opSlo_run s _)
  | .jsr _ => .next (opJsr_run s _)
  | .andIzx _ => .next (opAnd_run s _)
  | .rlaIzx _ => .next (opRla_run s _)
  | .bitZp _ => .next (opBit_run s _)
  | .andZp _ => .next (opAnd_run s _)
  | .rolZp _ => .next (opRol_run s _)
  | .rlaZp _ => .next (opRla_run s _)
  | .andImm _ => .next (opAnd_run s _)
  | .ancImm2B _ => .next (opAnc_run s _)
  | .bitAbs _ => .next (opBit_run s _)
  | .andAbs _ => .next (opAnd_run s _)
  | .rolAbs _ => .next (opRol_run s _)
  | .rlaAbs _ => .next (opRla_run s _)
  | .bmi _ => .next ((BusRun.refl s).branch _ _)
  | .andIzy _ => .next (opAnd_run s _)
  | .rlaIzy _ => .next (opRla_run s _)
  | .nopZpx34 _ => .next (opNop_run s _)
  | .andZpx _ => .next (opAnd_run s _)
  | .rolZpx _ => .next (opRol_run s _)
  | .rlaZpx _ => .next (opRla_run s _)
  | .andAbsy _ => .next (opAnd_run s _)
  | .rlaAbsy _ => .next (opRla_run s _)
  | .nopAbsx3C _ => .next (opNop_run s _)
  | .andAbsx _ => .next (opAnd_run s _)
  | .rolAbsx _ => .next (opRol_run s _)
  | .rlaAbsx _ => .next (opRla_run s _)
  | .eorIzx _ => .next (opEor_run s _)
  | .sreIzx _ => .next (opSre_run s _)
  | .nopZp44 _ => .next (opNop_run s _)
  | .eorZp _ => .next (opEor_run s _)
  | .lsrZp _ => .next (opLsr_run s _)
  | .sreZp _ => .next (opSre_run s _)
  | .eorImm _ => .next (opEor_run s _)
  | .alrImm _ => .next (opAlr_run s _)
  | .jmpAbs _ => .next (jmpAbs_run s _)
  | .eorAbs _ => .next (opEor_run s _)
  | .lsrAbs _ => .next (opLsr_run s _)
  | .sreAbs _ => .next (opSre_run s _)
  | .bvc _ => .next ((BusRun.refl s).branch _ _)
  | .eorIzy _ => .next (opEor_run s _)
  | .sreIzy _ => .next (opSre_run s _)
  | .nopZpx54 _ => .next (opNop_run s _)
  | .eorZpx _ => .next (opEor_run s _)
  | .lsrZpx _ => .next (opLsr_run s _)
  | .sreZpx _ => .next (opSre_run s _)
  | .eorAbsy _ => .next (opEor_run s _)
  | .sreAbsy _ => .next (opSre_run s _)
  | .nopAbsx5C _ => .next (opNop_run s _)
  | .eorAbsx _ => .next (opEor_run s _)
  | .lsrAbsx _ => .next (opLsr_run s _)
  | .sreAbsx _ => .next (opSre_run s _)
  | .adcIzx _ => .next (opAdc_run s _)
  | .rraIzx _ => .next (opRra_run s _)
  | .nopZp64 _ => .next (opNop_run s _)
  | .adcZp _ => .next (opAdc_run s _)
  | .rorZp _ => .next (opRor_run s _)
  | .rraZp _ => .next (opRra_run s _)
  | .adcImm _ => .next (opAdc_run s _)
  | .arrImm _ => .next (opArr_run s _)
  | .jmpInd _ => .next (jmpInd_run s _)
  | .adcAbs _ => .next (opAdc_run s _)
  | .rorAbs _ => .next (opRor_run s _)
  | .rraAbs _ => .next (opRra_run s _)
  | .bvs _ => .next ((BusRun.refl s).branch _ _)
  | .adcIzy _ => .next (opAdc_run s _)
  | .rraIzy _ => .next (opRra_run s _)
  | .nopZpx74 _ => .next (opNop_run s _)
  | .adcZpx _ => .next (opAdc_run s _)
  | .rorZpx _ => .next (opRor_run s _)
  | .rraZpx _ => .next (opRra_run s _)
  | .adcAbsy _ => .next (opAdc_run s _)
  | .rraAbsy _ => .next (opRra_run s _)
  | .nopAbsx7C _ => .next (opNop_run s _)
  | .adcAbsx _ => .next (opAdc_run s _)
  | .rorAbsx _ => .next (opRor_run s _)
  | .rraAbsx _ => .next (opRra_run s _)
  | .nopImm80 _ => .next (opNop_run s _)
  | .staIzx _ => .next (opSta_run s _)
  | .nopImm82 _ => .next (opNop_run s _)
  | .saxIzx _ => .next (opSax_run s _)
  | .styZp _ => .next (opSty_run s _)
  | .staZp _ => .next (opSta_run s _)
  | .stxZp _ => .next (opStx_run s _)
  | .saxZp _ => .next (opSax_run s _)
  | .nopImm89 _ => .next (opNop_run s _)
  | .xaaImm _ => .underPolicy _ .inl (opNop_run s _)
  | .styAbs _ => .next (opSty_run s _)
  | .staAbs _ => .next (opSta_run s _)
  | .stxAbs _ => .next (opStx_run s _)
  | .saxAbs _ => .next (opSax_run s _)
  | .bcc _ => .next ((BusRun.refl s).branch _ _)
  | .staIzy _ => .next (opSta_run s _)
  | .ahxIzy _ => .underPolicy _ .inl ((BusRun.refl s).nopWriteOperand _)
  | .styZpx _ => .next (opSty_run s _)
  | .staZpx _ => .next (opSta_run s _)
  | .stxZpy _ => .next (opStx_run s _)
  | .saxZpy _ => .next (opSax_run s _)
  | .staAbsy _ => .next (opSta_run s _)
  | .tasAbsy _ => .underPolicy _ .inl ((BusRun.refl s).nopWriteOperand _)
  | .shyAbsx _ => .underPolicy _ .inl ((BusRun.refl s).nopWriteOperand _)
  | .staAbsx _ => .next (opSta_run s _)
  | .shxAbsy _ => .underPolicy _ .inl ((BusRun.refl s).nopWriteOperand _)
  | .ahxAbsy _ => .underPolicy _ .inl ((BusRun.refl s).nopWriteOperand _)
  | .ldyImm _ => .next (opLdy_run s _)
  | .ldaIzx _ => .next (opLda_run s _)
  | .ldxImm _ => .next (opLdx_run s _)
  | .laxIzx _ => .next (opLax_run s _)
  | .ldyZp _ => .next (opLdy_run s _)
  | .ldaZp _ => .next (opLda_run s _)
  | .ldxZp _ => .next (opLdx_run s _)
  | .laxZp _ => .next (opLax_run s _)
  | .ldaImm _ => .next (opLda_run s _)
  | .laxImm _ => .next (opLax_run s _)
  | .ldyAbs _ => .next (opLdy_run s _)
  | .ldaAbs _ => .next (opLda_run s _)
  | .ldxAbs _ => .next (opLdx_run s _)
  | .laxAbs _ => .next (opLax_run s _)
  | .bcs _ => .next ((BusRun.refl s).branch _ _)
  | .ldaIzy _ => .next (opLda_run s _)
  | .laxIzy _ => .next (opLax_run s _)
  | .ldyZpx _ => .next (opLdy_run s _)
  | .ldaZpx _ => .next (opLda_run s _)
  | .ldxZpy _ => .next (opLdx_run s _)
  | .laxZpy _ => .next (opLax_run s _)
  | .ldaAbsy _ => .next (opLda_run s _)
  | .lasAbsy _ => .underPolicy _ .inl (opNop_run s _)
  | .ldyAbsx _ => .next (opLdy_run s _)
  | .ldaAbsx _ => .next (opLda_run s _)
  | .ldxAbsy _ => .next (opLdx_run s _)
  | .laxAbsy _ => .next (opLax_run s _)
  | .cpyImm _ => .next (opCpy_run s _)
  | .cmpIzx _ => .next (opCmp_run s _)
  | .nopImmC2 _ => .next (opNop_run s _)
  | .dcpIzx _ => .next (opDcp_run s _)
  | .cpyZp _ => .next (opCpy_run s _)
  | .cmpZp _ => .next (opCmp_run s _)
  | .decZp _ => .next (opDec_run s _)
  | .dcpZp _ => .next (opDcp_run s _)
  | .cmpImm _ => .next (opCmp_run s _)
  | .axsImm _ => .next (opAxs_run s _)
  | .cpyAbs _ => .next (opCpy_run s _)
  | .cmpAbs _ => .next (opCmp_run s _)
  | .decAbs _ => .next (opDec_run s _)
  | .dcpAbs _ => .next (opDcp_run s _)
  | .bne _ => .next ((BusRun.refl s).branch _ _)
  | .cmpIzy _ => .next (opCmp_run s _)
  | .dcpIzy _ => .next (opDcp_run s _)
  | .nopZpxD4 _ => .next (opNop_run s _)
  | .cmpZpx _ => .next (opCmp_run s _)
  | .decZpx _ => .next (opDec_run s _)
  | .dcpZpx _ => .next (opDcp_run s _)
  | .cmpAbsy _ => .next (opCmp_run s _)
  | .dcpAbsy _ => .next (opDcp_run s _)
  | .nopAbsxDC _ => .next (opNop_run s _)
  | .cmpAbsx _ => .next (opCmp_run s _)
  | .decAbsx _ => .next (opDec_run s _)
  | .dcpAbsx _ => .next (opDcp_run s _)
  | .cpxImm _ => .next (opCpx_run s _)
  | .sbcIzx _ => .next (opSbc_run s _)
  | .nopImmE2 _ => .next (opNop_run s _)
  | .iscIzx _ => .next (opIsc_run s _)
  | .cpxZp _ => .next (opCpx_run s _)
  | .sbcZp _ => .next (opSbc_run s _)
  | .incZp _ => .next (opInc_run s _)
  | .iscZp _ => .next (opIsc_run s _)
  | .sbcImm _ => .next (opSbc_run s _)
  | .sbcImmEB _ => .next (opSbc_run s _)
  | .cpxAbs _ => .next (opCpx_run s _)
  | .sbcAbs _ => .next (opSbc_run s _)
  | .incAbs _ => .next (opInc_run s _)
  | .iscAbs _ => .next (opIsc_run s _)
  | .beq _ => .next ((BusRun.refl s).branch _ _)
  | .sbcIzy _ => .next (opSbc_run s _)
  | .iscIzy _ => .next (opIsc_run s _)
  | .nopZpxF4 _ => .next (opNop_run s _)
  | .sbcZpx _ => .next (opSbc_run s _)
  | .incZpx _ => .next (opInc_run s _)
  | .iscZpx _ => .next (opIsc_run s _)
  | .sbcAbsy _ => .next (opSbc_run s _)
  | .iscAbsy _ => .next (opIsc_run s _)
  | .nopAbsxFC _ => .next (opNop_run s _)
  | .sbcAbsx _ => .next (opSbc_run s _)
  | .incAbsx _ => .next (opInc_run s _)
  | .iscAbsx _ => .next (opIsc_run s _)
  | .jam02 => .underPolicy _ .inr (BusRun.refl s).implied
  | .php => .next (opPhp_run s)
  | .aslAcc => .next (opAslAcc_run s)
  | .jam12 => .underPolicy _ .inr (BusRun.refl s).implied
  | .clc => .next (opClc_run s)
  | .nopImp1A => .next (BusRun.refl s).implied
  | .jam22 => .underPolicy _ .inr (BusRun.refl s).implied
  | .plp => .next (opPlp_run s)
  | .rolAcc => .next (opRolAcc_run s)
  | .jam32 => .underPolicy _ .inr (BusRun.refl s).implied
  | .sec => .next (opSec_run s)
  | .nopImp3A => .next (BusRun.refl s).implied
  | .rti => .next (BusRun.refl s).returnFromInterrupt
  | .jam42 => .underPolicy _ .inr (BusRun.refl s).implied
  | .pha => .next (opPha_run s)
  | .lsrAcc => .next (opLsrAcc_run s)
  | .jam52 => .underPolicy _ .inr (BusRun.refl s).implied
  | .cli => .next (opCli_run s)
  | .nopImp5A => .next (BusRun.refl s).implied
  | .rts => .next (opRts_run s)
  | .jam62 => .underPolicy _ .inr (BusRun.refl s).implied
  | .pla => .next (opPla_run s)
  | .rorAcc => .next (opRorAcc_run s)
  | .jam72 => .underPolicy _ .inr (BusRun.refl s).implied
  | .sei => .next (opSei_run s)
  | .nopImp7A => .next (BusRun.refl s).implied
  | .dey => .next (opDey_run s)
  | .txa => .next (opTxa_run s)
  | .jam92 => .underPolicy _ .inr (BusRun.refl s).implied
  | .tya => .next (opTya_run s)
  | .txs => .next (opTxs_run s)
  | .tay => .next (opTay_run s)
  | .tax => .next (opTax_run s)
  | .jamB2 => .underPolicy _ .inr (BusRun.refl s).implied
  | .clv => .next (opClv_run s)
  | .tsx => .next (opTsx_run s)
  | .iny => .next (opIny_run s)
  | .dex => .next (opDex_run s)
  | .jamD2 => .underPolicy _ .inr (BusRun.refl s).implied
  | .cld => .next (opCld_run s)
  | .nopImpDA => .next (BusRun.refl s).implied
  | .inx => .next (opInx_run s)
  | .nop => .next (BusRun.refl s).implied
  | .jamF2 => .underPolicy _ .inr (BusRun.refl s).implied
  | .sed => .next (opSed_run s)
  | .nopImpFA => .next (BusRun.refl s).implied

theorem fetchPhase_run (s : State) : BusRun s (fetchPhase s).2 := by
  unfold fetchPhase
  dsimp only
  split
  · exact (BusRun.refl s).fetch
  · exact (BusRun.refl s).fetch.fetch
  · exact (BusRun.refl s).fetch.fetch.fetch

/-- The reset sequence's own assignments before its first cycle (rule R400). -/
def State.resetCleared (s : State) : State :=
  { s with resetReq := false, nmiPending := false, stall := 0, dma := [], stuck := none, coldReset := false }

/-- The start of the reset of power-on, and of a warm reset with the default DEVICE_RESET: the assignments alone. -/
theorem resetStart_eq {s : State} (h : s.coldReset = true ∨ s.params.deviceReset = .nothing) :
    resetStart s = s.resetCleared := by
  unfold resetStart resetDevices
  obtain h | h := h
  · simp [h, State.resetCleared]
  · cases s.coldReset <;> simp [h, State.resetCleared]

/-- Everything the start of a reset can do: the assignments, and by a warm reset with another DEVICE_RESET what that does
to the PPU, the APU and the mapper's registers (rule R402). -/
theorem resetStart_cases (s : State) :
    resetStart s = s.resetCleared ∨
      (s.coldReset = false ∧ s.params.deviceReset = .other ∧
        resetStart s = { s.resetCleared with
          ppu := Config.resetPpu s.free s.ppu
          apu := Config.resetApu s.free s.apu
          cart := { s.cart with mapper := s.cart.mapper.warmReset s.free } }) := by
  cases hc : s.coldReset with
  | true => exact .inl (resetStart_eq (.inl hc))
  | false =>
    cases hd : s.params.deviceReset with
    | nothing => exact .inl (resetStart_eq (.inr hd))
    | other => exact .inr ⟨rfl, rfl, by simp [resetStart, resetDevices, hc, hd, State.resetCleared]⟩

/-- The reset sequence after its own assignments and the device reset: a run, and then nothing is owed (rules R400, R42). -/
theorem resetSequence_run (s : State) :
    ∃ t, BusRun (resetStart s) t ∧ resetSequence s = t.dropStall := by
  have R := BusRun.refl (resetStart s)
  exact ⟨_, ((((((((R.dummyRead _).dummyRead _).setS _).dummyRead _).setS _).dummyRead _).setS _).dummyRead _ |>.setS _
    |>.setP _).loadVector _, rfl⟩

/-- Everything a step can do (rule R320): stay stuck, or answer a next state by the reset sequence, a stall cycle, or a
run of bus cycles. -/
theorem step_cases (s : State) :
    (∃ op, s.resetReq = false ∧ s.stuck = some op ∧ step s = .refused (.opcodeRefused op)) ∨
    (s.resetReq = true ∧ step s = .next (resetSequence s)) ∨
    (s.resetReq = false ∧ s.stuck = none ∧ 0 < s.stall ∧ step s = .next (stallCycle s)) ∨
    (s.resetReq = false ∧ s.stuck = none ∧ s.stall = 0 ∧ ∃ t, step s = .next t ∧ BusRun s t) := by
  unfold step cpuStep
  split
  · next h => exact .inr (.inl ⟨h, rfl⟩)
  · next h =>
    have h : s.resetReq = false := by simpa using h
    split
    · next op hop => exact .inl ⟨op, h, hop, rfl⟩
    · next hn =>
      split
      · next hst => exact .inr (.inr (.inl ⟨h, hn, hst, rfl⟩))
      · next hst =>
        refine .inr (.inr (.inr ⟨h, hn, by omega, ?_⟩))
        split
        · exact ⟨_, rfl, .nmiSequence s⟩
        · split
          · exact ⟨_, rfl, .irqSequence s⟩
          · obtain ⟨t, ht, hr⟩ := exec_runs (fetchPhase s).1 (fetchPhase s).2
            exact ⟨t, ht, (fetchPhase_run s).trans hr⟩

end Sys2Proof.Machine
end

