-- ==== Sys2Proof/Laws/Dma.lean ====
section
/-! SUPPORT. The stall counter is what the DMA queue owes, through every operation; and the latches are sampled at the
end of every cycle. -/

namespace Sys2Proof.Machine

/-! ## The latches -/

theorem endCycle_latches (s : State) : (endCycle s).latchesSampled = true := by
  simp [State.latchesSampled, endCycle]

/-- A run that starts with the latches sampled keeps them so. -/
theorem BusRun.latches {s t : State} (r : BusRun s t) (h : s.latchesSampled = true) : t.latchesSampled = true := by
  induction r with
  | refl => exact h
  | read a _ _ => exact endCycle_latches _
  | write a d _ _ => exact endCycle_latches _
  | regs _ _ _ _ _ _ _ ih => exact ih
  | clearNmi _ ih => exact ih
  | stick _ _ _ ih => exact ih

/-! ## The accounts -/

theorem State.stallAccounted_iff (s : State) : s.stallAccounted = true ↔
    (∀ j ∈ s.dma, j.wf = true) ∧ s.stall = (s.dma.map DmaJob.owed).sum := by
  simp [State.stallAccounted]

/-- Queueing a job that owes `n` cycles, and adding `n`, keeps the accounts. -/
theorem State.stallAccounted_append {s t : State} {j : DmaJob} (h : s.stallAccounted = true) (hj : j.wf = true)
    (hd : t.dma = s.dma ++ [j]) (hs : t.stall = s.stall + j.owed) : t.stallAccounted = true := by
  rw [State.stallAccounted_iff] at *
  refine ⟨?_, ?_⟩
  · intro k hk
    rw [hd, List.mem_append, List.mem_singleton] at hk
    obtain hk | rfl := hk
    · exact h.1 k hk
    · exact hj
  · rw [hd, hs, h.2]
    simp

theorem State.stallAccounted_congr {s t : State} (h : s.stallAccounted = true) (hd : t.dma = s.dma)
    (hs : t.stall = s.stall) : t.stallAccounted = true := by
  unfold State.stallAccounted at *
  rw [hd, hs]
  exact h

theorem deviceRead_dma (a : Nat) (s : State) :
    (deviceRead a s).2.dma = s.dma ∧ (deviceRead a s).2.stall = s.stall := by
  unfold deviceRead
  split_ifs <;> exact ⟨rfl, rfl⟩

theorem busRead_dma (a : Word) (s : State) : (busRead a s).2.dma = s.dma ∧ (busRead a s).2.stall = s.stall :=
  deviceRead_dma _ s

/-- A write touches the accounts only by starting an OAM DMA. -/
theorem deviceWrite_dma {a : Nat} (d : Byte) (s : State) (h : a ≠ 0x4014) :
    (deviceWrite a d s).dma = s.dma ∧ (deviceWrite a d s).stall = s.stall := by
  unfold deviceWrite
  split_ifs <;> first | exact absurd ‹_› h | exact ⟨rfl, rfl⟩

theorem endCycle_accounted {s : State} (h : s.stallAccounted = true) : (endCycle s).stallAccounted = true := by
  unfold endCycle
  dsimp only
  by_cases hf : s.apu.dmcRequests s.free = true
  · exact State.stallAccounted_append (j := .dmc (Config.dmcFetchAddr s.free) 0) h rfl (if_pos hf) (if_pos hf)
  · exact State.stallAccounted_congr h (if_neg hf) (if_neg hf)

theorem startOamDma_accounted {s : State} (page : Byte) (h : s.stallAccounted = true) :
    (startOamDma page s).stallAccounted = true := by
  have hodd : s.cycles.toNat % 2 < 2 := Nat.mod_lt _ (by decide)
  refine State.stallAccounted_append (j := .oam page (1 + s.cycles.toNat % 2) 0 0#8) h ?_ rfl ?_
  · simp only [DmaJob.wf, Bool.and_eq_true, decide_eq_true_eq]
    omega
  · simp only [startOamDma, DmaJob.owed, DmaJob.length, DmaJob.pos]
    omega

theorem busWrite_accounted {s : State} (a : Word) (d : Byte) (h : s.stallAccounted = true) :
    (busWrite a d s).stallAccounted = true := by
  by_cases ha : a.toNat = 0x4014
  · have e : deviceWrite a.toNat d s = startOamDma d s := by rw [ha]; rfl
    exact State.stallAccounted_congr (s := startOamDma d s) (startOamDma_accounted d h)
      (congrArg State.dma e :) (congrArg State.stall e :)
  · exact State.stallAccounted_congr h (deviceWrite_dma d s ha).1 (deviceWrite_dma d s ha).2

theorem memRead_accounted {s : State} (a : Word) (h : s.stallAccounted = true) :
    (memRead a s).2.stallAccounted = true :=
  endCycle_accounted (State.stallAccounted_congr h (busRead_dma a s).1 (busRead_dma a s).2)

theorem memWrite_accounted {s : State} (a : Word) (d : Byte) (h : s.stallAccounted = true) :
    (memWrite a d s).stallAccounted = true :=
  endCycle_accounted (busWrite_accounted a d h)

/-- A run keeps the accounts. -/
theorem BusRun.accounted {s t : State} (r : BusRun s t) (h : s.stallAccounted = true) :
    t.stallAccounted = true := by
  induction r with
  | refl => exact h
  | read a _ ih => exact memRead_accounted a ih
  | write a d _ ih => exact memWrite_accounted a d ih
  | regs _ _ _ _ _ _ _ ih => exact ih
  | clearNmi _ ih => exact ih
  | stick _ _ _ ih => exact ih

/-- What one stall cycle does to the first job: it has taken one cycle more. -/
theorem oamDmaCycle_job (page : Byte) (align pos : Nat) (latch : Byte) (s : State) :
    ∃ latch', (oamDmaCycle page align pos latch s).1 = .oam page align (pos + 1) latch' := by
  unfold oamDmaCycle
  split_ifs <;> exact ⟨_, rfl⟩

theorem dmcDmaCycle_job (addr : Word) (pos : Nat) (s : State) :
    (dmcDmaCycle addr pos s).1 = .dmc addr (pos + 1) := by
  unfold dmcDmaCycle
  split_ifs <;> rfl

theorem oamDmaCycle_stall (page : Byte) (align pos : Nat) (latch : Byte) (s : State) :
    (oamDmaCycle page align pos latch s).2.stall = s.stall := by
  unfold oamDmaCycle
  split_ifs
  · rfl
  · exact (busRead_dma _ s).2
  · rfl

theorem dmcDmaCycle_stall (addr : Word) (pos : Nat) (s : State) :
    (dmcDmaCycle addr pos s).2.stall = s.stall := by
  unfold dmcDmaCycle
  split_ifs
  · rfl
  · exact (busRead_dma addr s).2

/-- The accounts after the first job has taken a cycle. -/
theorem accounted_advance {s t : State} {job job' : DmaJob} {rest : List DmaJob} (h : s.stallAccounted = true)
    (hs : s.dma = job :: rest) (hj : job'.owed + 1 = job.owed) (hw : 0 < job'.owed → job'.wf = true)
    (hd : t.dma = if job'.owed = 0 then rest else job' :: rest) (ht : t.stall = s.stall - 1) :
    t.stallAccounted = true := by
  rw [State.stallAccounted_iff] at *
  obtain ⟨hall, hsum⟩ := h
  rw [hs] at hall hsum
  simp only [List.map_cons, List.sum_cons] at hsum
  split at hd
  · refine ⟨fun k hk => hall k (by rw [hd] at hk; exact List.mem_cons_of_mem _ hk), ?_⟩
    rw [hd, ht]
    omega
  · refine ⟨fun k hk => ?_, ?_⟩
    · rw [hd] at hk
      obtain rfl | hk := List.mem_cons.1 hk
      · exact hw (by omega)
      · exact hall k (List.mem_cons_of_mem _ hk)
    · rw [hd, ht]
      simp only [List.map_cons, List.sum_cons]
      omega

theorem dmaCycle_cons {s : State} {job : DmaJob} {rest : List DmaJob} (h : s.dma = job :: rest) :
    dmaCycle s =
      { (job.cycle s).2 with dma := if (job.cycle s).1.owed = 0 then rest else (job.cycle s).1 :: rest } := by
  simp only [dmaCycle, h]

/-- One stall cycle's DMA work pays for the cycle. -/
theorem dmaCycle_accounted {s : State} (h : s.stallAccounted = true) (hs : 0 < s.stall) :
    (dmaCycle { s with stall := s.stall - 1 }).stallAccounted = true := by
  have h' := (State.stallAccounted_iff s).1 h
  obtain hd | ⟨job, rest, hd⟩ : s.dma = [] ∨ ∃ job rest, s.dma = job :: rest := by
    cases s.dma with
    | nil => exact .inl rfl
    | cons job rest => exact .inr ⟨job, rest, rfl⟩
  · rw [hd] at h'
    simp at h'
    omega
  · have hw := h'.1 job (by rw [hd]; exact List.mem_cons_self)
    rw [dmaCycle_cons (s := { s with stall := s.stall - 1 }) hd]
    cases job with
    | oam page align pos latch =>
      simp only [DmaJob.wf, Bool.and_eq_true, decide_eq_true_eq] at hw
      obtain ⟨latch', hj⟩ := oamDmaCycle_job page align pos latch { s with stall := s.stall - 1 }
      refine accounted_advance (job' := .oam page align (pos + 1) latch') h hd ?_ ?_ ?_
        (oamDmaCycle_stall page align pos latch { s with stall := s.stall - 1 })
      · simp only [DmaJob.owed, DmaJob.length, DmaJob.pos]; omega
      · simp only [DmaJob.owed, DmaJob.length, DmaJob.pos, DmaJob.wf, Bool.and_eq_true, decide_eq_true_eq]; omega
      · simp only [DmaJob.cycle, hj]
    | dmc addr pos =>
      simp only [DmaJob.wf, decide_eq_true_eq] at hw
      refine accounted_advance (job' := .dmc addr (pos + 1)) h hd ?_ ?_ ?_
        (dmcDmaCycle_stall addr pos { s with stall := s.stall - 1 })
      · simp only [DmaJob.owed, DmaJob.length, DmaJob.pos]; omega
      · simp only [DmaJob.owed, DmaJob.length, DmaJob.pos, DmaJob.wf, decide_eq_true_eq]; omega
      · simp only [DmaJob.cycle, dmcDmaCycle_job]

theorem stallCycle_accounted {s : State} (h : s.stallAccounted = true) (hs : 0 < s.stall) :
    (stallCycle s).stallAccounted = true :=
  endCycle_accounted (dmaCycle_accounted h hs)

end Sys2Proof.Machine
end

