-- ==== Sys2Proof/Laws/Memory.lean ====
section
/-! SUPPORT. The laws of one memory: read after write, and that a write keeps the canonical form. -/

namespace Sys2Proof

theorem Memory.wfFrom_cons {size low k : Nat} {b : Byte} {rest : Memory} :
    Memory.wfFrom size low ((k, b) :: rest) = true ↔
      low ≤ k ∧ k < size ∧ b ≠ Memory.unlisted ∧ Memory.wfFrom size (k + 1) rest = true := by
  simp [Memory.wfFrom, and_assoc]

theorem Memory.wfFrom_mono {size low low' : Nat} {m : Memory} (h : Memory.wfFrom size low m = true)
    (hl : low' ≤ low) : Memory.wfFrom size low' m = true := by
  cases m with
  | nil => rfl
  | cons e rest =>
    obtain ⟨k, b⟩ := e
    rw [Memory.wfFrom_cons] at *
    exact ⟨hl.trans h.1, h.2⟩

/-- Below its lowest address a canonical memory reads as unlisted. -/
theorem Memory.read_below {size low a : Nat} {m : Memory} (h : Memory.wfFrom size low m = true) (ha : a < low) :
    m.read a = Memory.unlisted := by
  induction m generalizing low with
  | nil => rfl
  | cons e rest ih =>
    obtain ⟨k, b⟩ := e
    rw [Memory.wfFrom_cons] at h
    simp only [Memory.read]
    rw [if_neg (by omega)]
    exact ih h.2.2.2 (by omega)

theorem Memory.read_put_other {a c : Nat} {b : Byte} {rest : Memory} (h : c ≠ a) :
    (Memory.put a b rest).read c = rest.read c := by
  unfold Memory.put
  split
  · rfl
  · simp [Memory.read, Ne.symm h]

theorem Memory.read_put_same {size a : Nat} {b : Byte} {rest : Memory}
    (h : Memory.wfFrom size (a + 1) rest = true) : (Memory.put a b rest).read a = b := by
  unfold Memory.put
  split
  · next hb => rw [hb]; exact Memory.read_below h (by omega)
  · simp [Memory.read]

/-- A write leaves every other address alone, whatever the memory. -/
theorem Memory.read_write_other {m : Memory} {a c : Nat} {b : Byte} (h : c ≠ a) :
    (m.write a b).read c = m.read c := by
  induction m with
  | nil => exact Memory.read_put_other h
  | cons e rest ih =>
    obtain ⟨k, d⟩ := e
    simp only [Memory.write]
    split
    · exact Memory.read_put_other h
    · split
      · next hk =>
        subst hk
        rw [Memory.read_put_other h]
        simp [Memory.read, Ne.symm h]
      · simp only [Memory.read, ih]

theorem Memory.read_write_same_from {size low a : Nat} {m : Memory} {b : Byte}
    (h : Memory.wfFrom size low m = true) : (m.write a b).read a = b := by
  induction m generalizing low with
  | nil => exact Memory.read_put_same (size := size) rfl
  | cons e rest ih =>
    obtain ⟨k, d⟩ := e
    have h' := Memory.wfFrom_cons.1 h
    simp only [Memory.write]
    split
    · exact Memory.read_put_same (Memory.wfFrom_cons.2 ⟨by omega, h'.2⟩)
    · split
      · next hk => subst hk; exact Memory.read_put_same h'.2.2.2
      · next h1 h2 =>
        simp only [Memory.read]
        rw [if_neg (Ne.symm h2)]
        exact ih h'.2.2.2

/-- A read after a write to the same address gives the byte written, in a canonical memory. -/
theorem Memory.read_write_same {size a : Nat} {m : Memory} {b : Byte} (h : m.wf size = true) :
    (m.write a b).read a = b :=
  Memory.read_write_same_from h

theorem Memory.put_wfFrom {size low a : Nat} {b : Byte} {rest : Memory} (hl : low ≤ a) (ha : a < size)
    (h : Memory.wfFrom size (a + 1) rest = true) : Memory.wfFrom size low (Memory.put a b rest) = true := by
  unfold Memory.put
  split
  · exact Memory.wfFrom_mono h (by omega)
  · next hb => exact Memory.wfFrom_cons.2 ⟨hl, ha, hb, h⟩

theorem Memory.write_wfFrom {size low a : Nat} {m : Memory} {b : Byte} (hl : low ≤ a) (ha : a < size)
    (h : Memory.wfFrom size low m = true) : Memory.wfFrom size low (m.write a b) = true := by
  induction m generalizing low with
  | nil => exact Memory.put_wfFrom hl ha rfl
  | cons e rest ih =>
    obtain ⟨k, d⟩ := e
    have h' := Memory.wfFrom_cons.1 h
    simp only [Memory.write]
    split
    · exact Memory.put_wfFrom hl ha (Memory.wfFrom_cons.2 ⟨by omega, h'.2⟩)
    · split
      · next hk => subst hk; exact Memory.put_wfFrom hl ha h'.2.2.2
      · exact Memory.wfFrom_cons.2 ⟨h'.1, h'.2.1, h'.2.2.1, ih (by omega) h'.2.2.2⟩

/-- A write inside the chip keeps the canonical form. -/
theorem Memory.write_wf {size a : Nat} {m : Memory} {b : Byte} (ha : a < size) (h : m.wf size = true) :
    (m.write a b).wf size = true :=
  Memory.write_wfFrom (Nat.zero_le a) ha h

end Sys2Proof
end

