-- ==== Sys2Proof/Laws/Wf.lean ====
section
/-! SUPPORT. Every operation keeps the well-formed states: each memory stays canonical and inside its chip, and each
bounded counter stays in its range. -/

namespace Sys2Proof.Machine

@[simp] theorem Mapper.powerOn_kind (m : Mapper) : m.powerOn.kind = m.kind := by cases m <;> rfl
@[simp] theorem Mapper.warmReset_kind (n : Nat) (m : Mapper) : (m.warmReset n).kind = m.kind := by cases m <;> rfl

/-- A write to the mapper keeps its kind (rule R371). -/
@[simp] theorem Mapper.cpuWrite_kind (m : Mapper) (a : Nat) (d : Byte) (n : BitVec 64) :
    (m.cpuWrite a d n).kind = m.kind := by
  cases m <;> simp only [Mapper.cpuWrite] <;> first | rfl | (split <;> rfl)

@[simp] theorem Mapper.sampleA12_kind (level : Bool) (m : Mapper) : (m.sampleA12 level).kind = m.kind := by cases m <;> rfl

/-! ## The PPU -/

theorem Ppu.wf_iff (p : Ppu) : p.wf = true ↔
    p.scanline < 262 ∧ p.dot < 341 ∧ p.oam.wf 0x100 = true ∧ p.palette.wf 0x20 = true ∧ p.vram.wf 0x1000 = true := by
  simp [Ppu.wf, and_assoc]

theorem Ppu.nextPos_wf {p : Ppu} (h : p.wf = true) : p.nextPos.wf = true := by
  rw [Ppu.wf_iff] at *
  unfold Ppu.nextPos
  split
  · exact ⟨h.1, by dsimp only; omega, h.2.2⟩
  · split
    · exact ⟨by dsimp only; omega, by dsimp only; omega, h.2.2⟩
    · refine ⟨by dsimp only; omega, ?_, h.2.2⟩
      dsimp only
      split <;> omega

theorem Ppu.tick_wf {p : Ppu} (n : Nat) (h : p.wf = true) : (p.tick n).wf = true := Ppu.nextPos_wf h

theorem paletteIndex_lt (a : Nat) : paletteIndex a < 0x20 := by
  unfold paletteIndex
  dsimp only
  split <;> omega

theorem vramOffset_lt (m : Mirroring) (a : Nat) : vramOffset m a < 0x1000 := by
  cases m <;> simp only [vramOffset] <;> omega

theorem Ppu.regRead_wf {p : Ppu} (c : Cart) (ob : Byte) (r : Nat) (h : p.wf = true) :
    (p.regRead c ob r).2.wf = true := by
  unfold Ppu.regRead
  split
  · exact h
  · exact h
  · unfold Ppu.dataRead
    dsimp only
    split <;> exact h
  · exact h

theorem Ppu.oamPut_wf {p : Ppu} (i : Nat) (d : Byte) (h : p.wf = true) : (p.oamPut i d).wf = true := by
  rw [Ppu.wf_iff] at *
  exact ⟨h.1, h.2.1, Memory.write_wf (Nat.mod_lt _ (by decide)) h.2.2.1, h.2.2.2⟩

theorem Ppu.regWrite_wf {p : Ppu} (c : Cart) (r : Nat) (d : Byte) (h : p.wf = true) :
    (p.regWrite c r d).wf = true := by
  unfold Ppu.regWrite
  split
  · exact h
  · exact h
  · exact h
  · exact h
  · exact Ppu.oamPut_wf 0 d h
  · unfold Ppu.scrollWrite
    split <;> exact h
  · unfold Ppu.addrWrite
    dsimp only
    split <;> exact h
  · unfold Ppu.dataWrite
    dsimp only
    rw [Ppu.wf_iff] at h
    split
    · exact (Ppu.wf_iff _).2 h
    · split
      · exact (Ppu.wf_iff _).2 ⟨h.1, h.2.1, h.2.2.1, h.2.2.2.1, Memory.write_wf (vramOffset_lt _ _) h.2.2.2.2⟩
      · exact (Ppu.wf_iff _).2 ⟨h.1, h.2.1, h.2.2.1, Memory.write_wf (paletteIndex_lt _) h.2.2.2.1, h.2.2.2.2⟩

/-! ## The APU and the controllers -/

theorem Apu.wf_iff (u : Apu) : u.wf = true ↔
    (u.frameStep < if u.fiveStep then 5 else 4) ∧ u.regs.wf 0x4014 = true := by
  simp [Apu.wf]

theorem bound_pos {b : Bool} : 0 < if b then 5 else 4 := by cases b <;> decide

theorem Apu.nextFrameStep_lt (u : Apu) : u.nextFrameStep < if u.fiveStep then 5 else 4 := by
  unfold Apu.nextFrameStep
  split_ifs <;> omega

theorem Apu.tick_wf {u : Apu} (n : Nat) (h : u.wf = true) : (u.tick n).wf = true := by
  rw [Apu.wf_iff] at *
  refine ⟨?_, h.2⟩
  show (if Config.frameStepDue n then u.nextFrameStep else u.frameStep) < if u.fiveStep then 5 else 4
  split
  · exact u.nextFrameStep_lt
  · exact h.1

theorem Apu.channelWrite_wf {u : Apu} {a : Nat} (d : Byte) (ha : a < 0x4014) (h : u.wf = true) :
    (u.channelWrite a d).wf = true := by
  rw [Apu.wf_iff] at *
  exact ⟨h.1, Memory.write_wf ha h.2⟩

theorem Apu.frameWrite_wf {u : Apu} (d : Byte) (h : u.wf = true) : (u.frameWrite d).wf = true := by
  rw [Apu.wf_iff] at *
  have hs : (u.frameWrite d).frameStep = 0 := by unfold Apu.frameWrite; dsimp only; split <;> rfl
  have hr : (u.frameWrite d).regs = u.regs := by unfold Apu.frameWrite; dsimp only; split <;> rfl
  rw [hs, hr]
  exact ⟨bound_pos, h.2⟩

theorem padIndex_le {b : Bool} {i : Nat} (h : i ≤ 8) : padIndex b i ≤ 8 := by
  unfold padIndex
  split_ifs <;> omega

theorem Pads.wf_iff (k : Pads) : k.wf = true ↔ k.index1 ≤ 8 ∧ k.index2 ≤ 8 := by simp [Pads.wf]

theorem Pads.read1_wf {k : Pads} (ob : Byte) (h : k.wf = true) : (k.read1 ob).2.wf = true := by
  rw [Pads.wf_iff] at *
  exact ⟨padIndex_le h.1, h.2⟩

theorem Pads.read2_wf {k : Pads} (ob : Byte) (h : k.wf = true) : (k.read2 ob).2.wf = true := by
  rw [Pads.wf_iff] at *
  exact ⟨h.1, padIndex_le h.2⟩

theorem Pads.strobeWrite_wf {k : Pads} (d : Byte) (h : k.wf = true) : (k.strobeWrite d).wf = true := by
  rw [Pads.wf_iff] at *
  unfold Pads.strobeWrite
  split
  · exact ⟨Nat.zero_le 8, Nat.zero_le 8⟩
  · exact h

/-! ## The cartridge -/

theorem Cart.wf_iff (c : Cart) : c.wf = true ↔
    c.mapper.wf = true ∧ c.prg.wf c.prgSize = true ∧ c.prgRam.wf 0x2000 = true ∧ c.chr.wf c.chrSize = true := by
  simp [Cart.wf, and_assoc]

theorem Mapper.sampleA12_wf {m : Mapper} (l : Bool) (h : m.wf = true) : (m.sampleA12 l).wf = true := by
  cases m with
  | mmc3 m =>
    simp only [Mapper.sampleA12, Mapper.wf, Mmc3.sampleA12] at *
    split <;> exact h
  | _ => exact h

theorem Mmc1.load_count {m : Mmc1} (a : Nat) (d : Byte) (h : m.count < 5) : (m.load a d).count < 5 := by
  unfold Mmc1.load
  dsimp only
  split
  · exact Nat.zero_lt_succ 4
  · split
    · dsimp only; omega
    · split <;> exact Nat.zero_lt_succ 4

theorem Mapper.cpuWrite_wf {m : Mapper} (a : Nat) (d : Byte) (stamp : BitVec 64) (h : m.wf = true) :
    (m.cpuWrite a d stamp).wf = true := by
  cases m with
  | nrom => exact h
  | mmc1 m =>
    simp only [Mapper.cpuWrite, Mapper.wf, Mmc1.cpuWrite, decide_eq_true_eq] at *
    split
    · exact h
    · exact Mmc1.load_count a d h
  | uxrom b =>
    simp only [Mapper.cpuWrite]
    split <;> rfl
  | cnrom b =>
    simp only [Mapper.cpuWrite]
    split <;> rfl
  | mmc3 m =>
    simp only [Mapper.cpuWrite]
    split
    · exact h
    · simp only [Mapper.wf, Mmc3.cpuWrite] at *
      split_ifs <;> first | exact h | exact Memory.write_wf (Nat.mod_lt _ (by decide)) h

theorem Cart.cpuWrite_wf {c : Cart} (a : Nat) (d : Byte) (stamp : BitVec 64) (h : c.wf = true) :
    (c.cpuWrite a d stamp).wf = true := by
  rw [Cart.wf_iff] at *
  refine ⟨Mapper.cpuWrite_wf a d stamp h.1, h.2.1, ?_, h.2.2.2⟩
  simp only [Cart.cpuWrite]
  split
  · next hc =>
    simp only [Bool.and_eq_true, decide_eq_true_eq] at hc
    exact Memory.write_wf (by omega) h.2.2.1
  · exact h.2.2.1

theorem Cart.chrSize_pos (c : Cart) : 0 < c.chrSize := by
  unfold Cart.chrSize
  split <;> omega

theorem Cart.ppuWrite_wf {c : Cart} (a : Nat) (d : Byte) (h : c.wf = true) : (c.ppuWrite a d).wf = true := by
  rw [Cart.wf_iff] at *
  unfold Cart.ppuWrite
  split
  · exact ⟨h.1, h.2.1, h.2.2.1, Memory.write_wf (Nat.mod_lt _ c.chrSize_pos) h.2.2.2⟩
  · exact h

theorem Ppu.regWriteCart_wf {c : Cart} (p : Ppu) (r : Nat) (d : Byte) (h : c.wf = true) :
    (p.regWriteCart c r d).wf = true := by
  unfold Ppu.regWriteCart
  split
  · exact Cart.ppuWrite_wf _ d h
  · exact h

theorem Cart.mapper_wf {c : Cart} {m : Mapper} (hm : m.wf = true) (h : c.wf = true) :
    ({ c with mapper := m } : Cart).wf = true := by
  rw [Cart.wf_iff] at *
  exact ⟨hm, h.2⟩

/-! ## The machine -/

theorem State.wf_iff (s : State) : s.wf = true ↔
    s.ram.wf 0x800 = true ∧ s.ppu.wf = true ∧ s.apu.wf = true ∧ s.pads.wf = true ∧ s.cart.wf = true := by
  simp [State.wf, and_assoc]

theorem runDots_wf {n : Nat} {q : Ppu × Mapper} (hp : q.1.wf = true) (hm : q.2.wf = true) :
    (runDots n q).1.wf = true ∧ (runDots n q).2.wf = true :=
  ⟨Ppu.tick_wf _ (Ppu.tick_wf _ (Ppu.tick_wf _ hp)),
    Mapper.sampleA12_wf _ (Mapper.sampleA12_wf _ (Mapper.sampleA12_wf _ hm))⟩

theorem endCycle_wf {s : State} (h : s.wf = true) : (endCycle s).wf = true := by
  rw [State.wf_iff] at *
  have hd := runDots_wf (n := s.free) (q := (s.ppu, s.cart.mapper)) h.2.1 ((Cart.wf_iff _).1 h.2.2.2.2).1
  exact ⟨h.1, hd.1, Apu.tick_wf _ h.2.2.1, h.2.2.2.1, Cart.mapper_wf hd.2 h.2.2.2.2⟩

theorem deviceRead_wf {s : State} (a : Nat) (h : s.wf = true) : (deviceRead a s).2.wf = true := by
  rw [State.wf_iff] at h
  unfold deviceRead
  split_ifs
  · exact (State.wf_iff _).2 h
  · exact (State.wf_iff _).2 ⟨h.1, Ppu.regRead_wf _ _ _ h.2.1, h.2.2⟩
  · exact (State.wf_iff _).2 h
  · exact (State.wf_iff _).2 ⟨h.1, h.2.1, h.2.2.1, Pads.read1_wf s.openBus h.2.2.2.1, h.2.2.2.2⟩
  · exact (State.wf_iff _).2 ⟨h.1, h.2.1, h.2.2.1, Pads.read2_wf s.openBus h.2.2.2.1, h.2.2.2.2⟩
  · exact (State.wf_iff _).2 h
  · exact (State.wf_iff _).2 h

theorem deviceWrite_wf {s : State} (a : Nat) (d : Byte) (h : s.wf = true) : (deviceWrite a d s).wf = true := by
  rw [State.wf_iff] at h
  unfold deviceWrite
  split_ifs
  · exact (State.wf_iff _).2 ⟨Memory.write_wf (Nat.mod_lt _ (by decide)) h.1, h.2⟩
  · exact (State.wf_iff _).2
      ⟨h.1, Ppu.regWrite_wf _ _ _ h.2.1, h.2.2.1, h.2.2.2.1, Ppu.regWriteCart_wf _ _ _ h.2.2.2.2⟩
  · next ha => exact (State.wf_iff _).2 ⟨h.1, h.2.1, Apu.channelWrite_wf d ha h.2.2.1, h.2.2.2⟩
  · exact (State.wf_iff _).2 h
  · exact (State.wf_iff _).2 h
  · exact (State.wf_iff _).2 ⟨h.1, h.2.1, h.2.2.1, Pads.strobeWrite_wf d h.2.2.2.1, h.2.2.2.2⟩
  · exact (State.wf_iff _).2 ⟨h.1, h.2.1, Apu.frameWrite_wf d h.2.2.1, h.2.2.2⟩
  · exact (State.wf_iff _).2 h
  · exact (State.wf_iff _).2 ⟨h.1, h.2.1, h.2.2.1, h.2.2.2.1, Cart.cpuWrite_wf _ d _ h.2.2.2.2⟩

theorem busRead_wf {s : State} (a : Word) (h : s.wf = true) : (busRead a s).2.wf = true := deviceRead_wf _ h
theorem busWrite_wf {s : State} (a : Word) (d : Byte) (h : s.wf = true) : (busWrite a d s).wf = true :=
  deviceWrite_wf _ d h
theorem memRead_wf {s : State} (a : Word) (h : s.wf = true) : (memRead a s).2.wf = true := endCycle_wf (busRead_wf a h)
theorem memWrite_wf {s : State} (a : Word) (d : Byte) (h : s.wf = true) : (memWrite a d s).wf = true :=
  endCycle_wf (busWrite_wf a d h)

/-- A run keeps the well-formed states. -/
theorem BusRun.wf {s t : State} (r : BusRun s t) (h : s.wf = true) : t.wf = true := by
  induction r with
  | refl => exact h
  | read a _ ih => exact memRead_wf a ih
  | write a d _ ih => exact memWrite_wf a d ih
  | regs _ _ _ _ _ _ _ ih => exact ih
  | clearNmi _ ih => exact ih
  | stick _ _ _ ih => exact ih

theorem DmaJob.cycle_wf {s : State} (j : DmaJob) (h : s.wf = true) : (j.cycle s).2.wf = true := by
  cases j with
  | oam page align pos latch =>
    simp only [DmaJob.cycle, oamDmaCycle]
    split_ifs
    · exact h
    · exact busRead_wf _ h
    · rw [State.wf_iff] at h
      exact (State.wf_iff _).2 ⟨h.1, Ppu.oamPut_wf _ _ h.2.1, h.2.2⟩
  | dmc addr pos =>
    simp only [DmaJob.cycle, dmcDmaCycle]
    split_ifs
    · exact h
    · exact busRead_wf addr h

theorem dmaCycle_wf {s : State} (h : s.wf = true) : (dmaCycle s).wf = true := by
  unfold dmaCycle
  split
  · exact h
  · exact DmaJob.cycle_wf _ h

theorem stallCycle_wf {s : State} (h : s.wf = true) : (stallCycle s).wf = true :=
  endCycle_wf (dmaCycle_wf (s := { s with stall := s.stall - 1 }) h)

end Sys2Proof.Machine
end

