-- ==== Sys2Proof/Laws/Frame.lean ====
section
/-! SUPPORT. Frames: what a read cycle and a write cycle keep of memory, of the platform and of what is pending, how the
frames of the parts of an instruction compose, and the frame of each operand access. -/

namespace Sys2Proof.Machine

/-! ## What an address shows depends on RAM and the cartridge's banks alone -/

/-- The part of the cartridge that decides what CPU addresses show. -/
def Cart.sameBanks (c d : Cart) : Prop := (∀ a, d.cpuRead? a = c.cpuRead? a) ∧
  d.mapper.prgRamWritable = c.mapper.prgRamWritable

theorem Mapper.sampleA12_writable (m : Mapper) (l : Bool) : (m.sampleA12 l).prgRamWritable = m.prgRamWritable := by
  cases m with
  | mmc3 m =>
    simp only [Mapper.sampleA12, Mapper.prgRamWritable, Mmc3.sampleA12]
    split <;> rfl
  | _ => rfl

theorem Cart.cpuRead?_sampleA12 (c : Cart) (l : Bool) (a : Nat) :
    { c with mapper := c.mapper.sampleA12 l }.cpuRead? a = c.cpuRead? a := by
  have hp : { c with mapper := c.mapper.sampleA12 l }.prgOffset a = c.prgOffset a := by
    unfold Cart.prgOffset
    cases hm : c.mapper with
    | mmc3 m =>
      have hs : (m.sampleA12 l).select = m.select := by
        unfold Mmc3.sampleA12
        split <;> rfl
      have hb : (m.sampleA12 l).banks = m.banks := by
        unfold Mmc3.sampleA12
        split <;> rfl
      simp only [Mapper.sampleA12, Mmc3.prgOffset, Mmc3.bankReg, hs, hb, Cart.bank8]
    | _ => rfl
  simp only [Cart.cpuRead?, hp]

theorem Cart.sameBanks.trans {c d e : Cart} (h : c.sameBanks d) (k : d.sameBanks e) : c.sameBanks e :=
  ⟨fun a => (k.1 a).trans (h.1 a), k.2.trans h.2⟩

theorem Cart.sameBanks_sampleA12 (c : Cart) (l : Bool) : c.sameBanks { c with mapper := c.mapper.sampleA12 l } :=
  ⟨c.cpuRead?_sampleA12 l, c.mapper.sampleA12_writable l⟩

theorem Cart.sameBanks_runDots (n : Nat) (p : Ppu) (c : Cart) :
    c.sameBanks { c with mapper := (runDots n (p, c.mapper)).2 } :=
  ((c.sameBanks_sampleA12 _).trans (Cart.sameBanks_sampleA12 { c with mapper := _ } _)).trans
    (Cart.sameBanks_sampleA12 { c with mapper := _ } _)

/-! ## One dot keeps the PPU's memories -/

theorem Ppu.nextPos_mem (p : Ppu) : p.nextPos.oam = p.oam ∧ p.nextPos.palette = p.palette ∧ p.nextPos.vram = p.vram := by
  unfold Ppu.nextPos
  split_ifs <;> exact ⟨rfl, rfl, rfl⟩

theorem Ppu.tick_mem (p : Ppu) (n : Nat) :
    (p.tick n).oam = p.oam ∧ (p.tick n).palette = p.palette ∧ (p.tick n).vram = p.vram := by
  unfold Ppu.tick
  exact Ppu.nextPos_mem _

theorem runDots_mem (n : Nat) (p : Ppu) (m : Mapper) :
    (runDots n (p, m)).1.oam = p.oam ∧ (runDots n (p, m)).1.palette = p.palette ∧
      (runDots n (p, m)).1.vram = p.vram := by
  have h1 := p.tick_mem (3 * n)
  have h2 := (p.tick (3 * n)).tick_mem (3 * n + 1)
  have h3 := ((p.tick (3 * n)).tick (3 * n + 1)).tick_mem (3 * n + 2)
  exact ⟨h3.1.trans (h2.1.trans h1.1), h3.2.1.trans (h2.2.1.trans h1.2.1), h3.2.2.trans (h2.2.2.trans h1.2.2)⟩

/-! ## The quiet frame: nothing stored -/

/-- `StoresNothing`, with what the mapper lets be written. -/
def Quiet (n : Nat) (s t : State) : Prop :=
  StoresNothing n s t ∧ t.cart.mapper.prgRamWritable = s.cart.mapper.prgRamWritable

theorem StoresNothing.refl (s : State) : StoresNothing 0 s s :=
  ⟨⟨rfl, rfl, rfl, rfl, rfl, rfl, rfl, rfl, rfl, rfl, rfl⟩, ⟨rfl, fun _ => rfl⟩,
    ⟨id, le_refl _, List.prefix_refl _, rfl⟩, by simp⟩

theorem KeepsPlatform.trans {s t u : State} (h : KeepsPlatform s t) (k : KeepsPlatform t u) : KeepsPlatform s u := by
  obtain ⟨h1, h2, h3, h4, h5, h6, h7, h8, h9, h10, h11⟩ := h
  obtain ⟨k1, k2, k3, k4, k5, k6, k7, k8, k9, k10, k11⟩ := k
  exact ⟨k1.trans h1, k2.trans h2, k3.trans h3, k4.trans h4, k5.trans h5, k6.trans h6, k7.trans h7, k8.trans h8,
    k9.trans h9, k10.trans h10, k11.trans h11⟩

theorem KeepsMemory.trans {s t u : State} (h : KeepsMemory s t) (k : KeepsMemory t u) : KeepsMemory s u :=
  ⟨k.1.trans h.1, fun a => (k.2 a).trans (h.2 a)⟩

theorem KeepsPending.trans {s t u : State} (h : KeepsPending s t) (k : KeepsPending t u) : KeepsPending s u :=
  ⟨fun e => k.1 (h.1 e), h.2.1.trans k.2.1, h.2.2.1.trans k.2.2.1, k.2.2.2.trans h.2.2.2⟩

theorem cycles_trans {m n : Nat} {s t u : State} (h : t.cycles = s.cycles + BitVec.ofNat 64 m)
    (k : u.cycles = t.cycles + BitVec.ofNat 64 n) : u.cycles = s.cycles + BitVec.ofNat 64 (m + n) := by
  rw [k, h, BitVec.add_assoc, ← BitVec.ofNat_add]

theorem StoresNothing.trans {m n : Nat} {s t u : State} (h : StoresNothing m s t) (k : StoresNothing n t u) :
    StoresNothing (m + n) s u :=
  ⟨h.1.trans k.1, h.2.1.trans k.2.1, h.2.2.1.trans k.2.2.1, cycles_trans h.2.2.2 k.2.2.2⟩

theorem Quiet.refl (s : State) : Quiet 0 s s := ⟨.refl s, rfl⟩

theorem Quiet.trans {m n : Nat} {s t u : State} (h : Quiet m s t) (k : Quiet n t u) : Quiet (m + n) s u :=
  ⟨h.1.trans k.1, k.2.trans h.2⟩

/-- The frame does not look at the registers of the state reached. -/
theorem Quiet.regs {n : Nat} {s t : State} (h : Quiet n s t) (a x y sp : Byte) (pc : Word) (p : Flags) :
    Quiet n s { t with a := a, x := x, y := y, s := sp, pc := pc, p := p } := h

/-- Nor at those of the state left. -/
theorem Quiet.ofDevices {n : Nat} {s t t' : State} (h : Quiet n s t) (e : t'.devices = t.devices) : Quiet n s t' := by
  have e2 : t' = { t with a := t'.a, x := t'.x, y := t'.y, s := t'.s, pc := t'.pc, p := t'.p } := by
    cases t
    cases t'
    simp only [State.devices, State.mk.injEq] at e
    simp [e]
  rw [e2]
  exact h.regs _ _ _ _ _ _

theorem memByte_congr {s t : State} (hr : t.ram = s.ram) (hc : ∀ a, t.cart.cpuRead? a = s.cart.cpuRead? a) (a : Word) :
    memByte t a = memByte s a := by
  simp only [memByte, hr, hc]

theorem endCycle_quiet (s : State) : Quiet 1 s (endCycle s) := by
  have hb := Cart.sameBanks_runDots s.free s.ppu s.cart
  have hm := runDots_mem s.free s.ppu s.cart.mapper
  refine ⟨⟨⟨rfl, rfl, rfl, rfl, rfl, rfl, rfl, rfl, rfl, rfl, rfl⟩, ⟨?_, memByte_congr rfl hb.1⟩, ⟨?_, ?_, ?_, rfl⟩,
    rfl⟩, hb.2⟩
  · show [s.ram, s.cart.prg, s.cart.prgRam, s.cart.chr, (runDots s.free (s.ppu, s.cart.mapper)).1.oam,
      (runDots s.free (s.ppu, s.cart.mapper)).1.palette, (runDots s.free (s.ppu, s.cart.mapper)).1.vram] = s.chips
    rw [hm.1, hm.2.1, hm.2.2]
    rfl
  · intro h
    simp [endCycle, h]
  · simp only [endCycle]
    split <;> omega
  · simp only [endCycle]
    split
    · exact List.prefix_append _ _
    · exact List.prefix_refl _

/-! ## A bus read -/

theorem Ppu.regRead_mem (p : Ppu) (c : Cart) (ob : Byte) (r : Nat) :
    (p.regRead c ob r).2.oam = p.oam ∧ (p.regRead c ob r).2.palette = p.palette ∧
      (p.regRead c ob r).2.vram = p.vram := by
  unfold Ppu.regRead
  split
  · exact ⟨rfl, rfl, rfl⟩
  · exact ⟨rfl, rfl, rfl⟩
  · simp only [Ppu.dataRead]
    split <;> exact ⟨rfl, rfl, rfl⟩
  · exact ⟨rfl, rfl, rfl⟩

theorem deviceRead_quiet (a : Nat) (s : State) : Quiet 0 s (deviceRead a s).2 := by
  unfold deviceRead
  split_ifs
  · exact .refl s
  · have h := s.ppu.regRead_mem s.cart s.openBus (a % 8)
    refine ⟨⟨⟨rfl, rfl, rfl, rfl, rfl, rfl, rfl, rfl, rfl, rfl, rfl⟩, ⟨?_, fun _ => rfl⟩,
      ⟨id, le_refl _, List.prefix_refl _, rfl⟩, by simp⟩, rfl⟩
    simp only [State.chips, h.1, h.2.1, h.2.2]
  · exact .refl s
  · exact .refl s
  · exact .refl s
  · exact .refl s
  · exact .refl s

theorem busRead_quiet (a : Word) (s : State) : Quiet 0 s (busRead a s).2 := deviceRead_quiet a.toNat s

theorem memRead_quiet (a : Word) (s : State) : Quiet 1 s (memRead a s).2 :=
  (busRead_quiet a s).trans (endCycle_quiet _)

theorem dummyRead_quiet (a : Word) (s : State) : Quiet 1 s (dummyRead a s) := memRead_quiet a s

theorem implied_quiet (s : State) : Quiet 1 s (implied s) := memRead_quiet s.pc s

theorem fetch_quiet (s : State) : Quiet 1 s (fetch s).2 := memRead_quiet s.pc s

theorem pull_quiet (s : State) : Quiet 1 s (pull s).2 := memRead_quiet (stackAddr (s.s + 1#8)) (s.setS (s.s + 1#8))

/-- What a read gives where the address shows memory. -/
theorem memRead_value {s : State} {a : Word} {b : Byte} (h : memByte s a = some b) : (memRead a s).1 = b := by
  show (deviceRead a.toNat s).1 = b
  unfold memByte at h
  split_ifs at h with h1 h2
  · simp only [Option.some.injEq] at h
    rw [deviceRead, if_pos h1]
    exact h
  · rw [deviceRead_cart s (by omega), h]
    rfl

end Sys2Proof.Machine
end

