-- ==== Sys2Proof/Laws/Operand.lean ====
section
/-! SUPPORT. What each operand access does: its effective address is Table 30-A's, its cycles are Table 40-A's, it changes
no register, and what it keeps (rules R134 to R140, R150, R151, R160). -/

namespace Sys2Proof.Machine

/-! ## Words and bytes -/

theorem mkWord_toNat (h l : Byte) : (mkWord h l).toNat = 0x100 * h.toNat + l.toNat := by
  have hl := l.isLt
  rw [mkWord, BitVec.toNat_append, Nat.shiftLeft_eq, Nat.mul_comm, ← Nat.two_pow_add_eq_or_of_lt (by omega)]

theorem lo_toNat (w : Word) : (lo w).toNat = w.toNat % 0x100 := by simp [lo]

theorem hi_toNat (w : Word) : (hi w).toNat = w.toNat / 0x100 := by
  have := w.isLt
  simp only [hi, BitVec.toNat_setWidth, BitVec.toNat_ushiftRight, Nat.shiftRight_eq_div_pow]
  omega

@[simp] theorem mkWord_hi_lo (w : Word) : mkWord (hi w) (lo w) = w := by
  apply BitVec.eq_of_toNat_eq
  rw [mkWord_toNat, lo_toNat, hi_toNat]
  omega

@[simp] theorem hi_mkWord (h l : Byte) : hi (mkWord h l) = h := by
  apply BitVec.eq_of_toNat_eq
  have := l.isLt
  rw [hi_toNat, mkWord_toNat]
  omega

@[simp] theorem lo_mkWord (h l : Byte) : lo (mkWord h l) = l := by
  apply BitVec.eq_of_toNat_eq
  have := l.isLt
  rw [lo_toNat, mkWord_toNat]
  omega

/-! ## The zero page -/

theorem zext_toNat (q : Byte) : (zext q).toNat = q.toNat := by
  simp only [zext, BitVec.toNat_setWidth]
  omega

theorem memByte_zeroPage (s : State) (q : Byte) : memByte s (zext q) = some (s.ram.read q.toNat) := by
  have h := q.isLt
  simp only [memByte, zext_toNat]
  rw [if_pos (by omega), Nat.mod_eq_of_lt (by omega)]

theorem memRead_zeroPage (s : State) (q : Byte) : (memRead (zext q) s).1 = s.ram.read q.toNat :=
  memRead_value (memByte_zeroPage s q)

theorem Quiet.ram {n : Nat} {s t : State} (h : Quiet n s t) : t.ram = s.ram := by
  have e := h.1.2.1.1
  simp only [State.chips, List.cons.injEq] at e
  exact e.1

theorem Quiet.zeroPageWord {n : Nat} {s t : State} (h : Quiet n s t) (q : Byte) : zeroPageWord t q = zeroPageWord s q := by
  simp only [Machine.zeroPageWord, h.ram]

theorem zeroPagePointer_value (q : Byte) (s : State) : (zeroPagePointer q s).1 = zeroPageWord s q := by
  simp only [zeroPagePointer, Machine.zeroPageWord, memRead_zeroPage, (memRead_quiet (zext q) s).ram]

theorem zeroPagePointer_quiet (q : Byte) (s : State) : Quiet 2 s (zeroPagePointer q s).2 :=
  (memRead_quiet _ _).trans (memRead_quiet _ _)

/-! ## The address phase -/

theorem addressPhase_quiet (o : Operand) (s : State) : Quiet (addressCycles o) s (addressPhase o s).2 := by
  cases o with
  | zp a => exact .refl s
  | zpx a => exact dummyRead_quiet _ s
  | zpy a => exact dummyRead_quiet _ s
  | abs w => exact .refl s
  | absx w => exact .refl s
  | absy w => exact .refl s
  | izx q => exact (dummyRead_quiet (zext q) s).trans (zeroPagePointer_quiet _ _)
  | izy q => exact zeroPagePointer_quiet _ _

/-- The effective address is Table 30-A's. -/
theorem addressPhase_ea (o : Operand) (s : State) : (addressPhase o s).1.ea = tableAddr o s := by
  cases o with
  | izx q =>
    simp only [addressPhase, tableAddr, EffAddr.direct, zeroPagePointer_value, (dummyRead_quiet (zext q) s).zeroPageWord]
  | izy q => simp only [addressPhase, tableAddr, EffAddr.indexBy, zeroPagePointer_value]
  | _ => rfl

theorem EffAddr.indexBy_cross (base : Word) (r : Byte) :
    (EffAddr.indexBy base r).cross = decide (0x100 ≤ (lo base).toNat + r.toNat) := rfl

theorem addressPhase_cross (o : Operand) (s : State) : (addressPhase o s).1.cross = crossesPage o s := by
  cases o with
  | izy q =>
    simp only [addressPhase, EffAddr.indexBy_cross, zeroPagePointer_value, crossesPage, indexed?]
  | _ => rfl

theorem addressPhase_indexed (o : Operand) (s : State) : (addressPhase o s).1.indexed = (indexed? o s).isSome := by
  cases o <;> rfl

/-- Without a carry the unfixed address is the effective address. -/
theorem EffAddr.indexBy_u (base : Word) (r : Byte) (h : (EffAddr.indexBy base r).cross = false) :
    (EffAddr.indexBy base r).u = (EffAddr.indexBy base r).ea := by
  simp only [indexBy_cross, decide_eq_false_iff_not] at h
  apply BitVec.eq_of_toNat_eq
  have hb := base.isLt
  have hr := r.isLt
  have hl := lo_toNat base
  simp only [indexBy, mkWord_toNat, hi_toNat, BitVec.toNat_add, zext_toNat]
  omega

theorem addressPhase_u (o : Operand) (s : State) (h : (addressPhase o s).1.cross = false) :
    (addressPhase o s).1.u = (addressPhase o s).1.ea := by
  cases o with
  | absx w => exact EffAddr.indexBy_u _ _ h
  | absy w => exact EffAddr.indexBy_u _ _ h
  | izy q => exact EffAddr.indexBy_u _ _ h
  | _ => rfl

/-! ## The operand accesses -/

theorem addressPhase_core (o : Operand) (s : State) : (addressPhase o s).2.core = s.core := by
  cases o with
  | zpx a => exact dummyRead_core _ s
  | zpy a => exact dummyRead_core _ s
  | izx q => exact (memRead_core _ _).trans ((memRead_core _ _).trans (dummyRead_core _ s))
  | izy q => exact (memRead_core _ _).trans (memRead_core _ _)
  | _ => rfl

theorem readOperand_core (src : Source) (s : State) : (readOperand src s).2.core = s.core := by
  cases src with
  | imm m => rfl
  | mem o =>
    have h := addressPhase_core o s
    unfold readOperand
    dsimp only
    split
    · exact (memRead_core _ _).trans ((memRead_core _ _).trans h)
    · exact (memRead_core _ _).trans h

theorem writeAddress_core (o : Operand) (s : State) : (writeAddress o s).2.core = s.core := by
  have h := addressPhase_core o s
  unfold writeAddress
  dsimp only
  split
  · exact (dummyRead_core _ _).trans h
  · exact h

section
variable (src : Source) (o : Operand) (s : State)

@[simp] theorem readOperand_a : (readOperand src s).2.a = s.a := congrArg (fun k => k.1.1) (readOperand_core src s)
@[simp] theorem readOperand_x : (readOperand src s).2.x = s.x := congrArg (fun k => k.1.2.1) (readOperand_core src s)
@[simp] theorem readOperand_y : (readOperand src s).2.y = s.y := congrArg (fun k => k.1.2.2.1) (readOperand_core src s)
@[simp] theorem readOperand_s : (readOperand src s).2.s = s.s := congrArg (fun k => k.1.2.2.2.1) (readOperand_core src s)
@[simp] theorem readOperand_pc : (readOperand src s).2.pc = s.pc :=
  congrArg (fun k => k.1.2.2.2.2.1) (readOperand_core src s)
@[simp] theorem readOperand_p : (readOperand src s).2.p = s.p := congrArg (fun k => k.1.2.2.2.2.2) (readOperand_core src s)
@[simp] theorem writeAddress_a : (writeAddress o s).2.a = s.a := congrArg (fun k => k.1.1) (writeAddress_core o s)
@[simp] theorem writeAddress_x : (writeAddress o s).2.x = s.x := congrArg (fun k => k.1.2.1) (writeAddress_core o s)
@[simp] theorem writeAddress_y : (writeAddress o s).2.y = s.y := congrArg (fun k => k.1.2.2.1) (writeAddress_core o s)
@[simp] theorem writeAddress_s : (writeAddress o s).2.s = s.s := congrArg (fun k => k.1.2.2.2.1) (writeAddress_core o s)
@[simp] theorem writeAddress_pc : (writeAddress o s).2.pc = s.pc :=
  congrArg (fun k => k.1.2.2.2.2.1) (writeAddress_core o s)
@[simp] theorem writeAddress_p : (writeAddress o s).2.p = s.p :=
  congrArg (fun k => k.1.2.2.2.2.2) (writeAddress_core o s)

end

/-- A read operand's cycles and frame. -/
theorem readOperand_quiet (src : Source) (s : State) : Quiet (readCycles src s) s (readOperand src s).2 := by
  cases src with
  | imm m => exact .refl s
  | mem o =>
    have h := addressPhase_quiet o s
    simp only [readCycles, ← addressPhase_cross]
    unfold readOperand
    dsimp only
    cases hc : (addressPhase o s).1.cross
    · exact h.trans (memRead_quiet _ _)
    · exact (h.trans (memRead_quiet _ _)).trans (memRead_quiet _ _)

theorem Quiet.memByte {n : Nat} {s t : State} (h : Quiet n s t) (a : Word) : memByte t a = memByte s a := h.1.2.1.2 a

/-- `ReadOperand()` gives the byte at Table 30-A's address, where that address shows memory. -/
theorem readOperand_value {o : Operand} {s : State} {b : Byte} (h : memByte s (tableAddr o s) = some b) :
    (readOperand (.mem o) s).1 = b := by
  have hq := addressPhase_quiet o s
  unfold readOperand
  dsimp only
  cases hc : (addressPhase o s).1.cross
  · simp only [Bool.false_eq_true, if_false, addressPhase_u o s hc, addressPhase_ea]
    exact memRead_value ((hq.memByte _).trans h)
  · simp only [if_true, addressPhase_ea]
    exact memRead_value (((hq.trans (memRead_quiet _ _)).memByte _).trans h)

theorem writeAddress_ea (o : Operand) (s : State) : (writeAddress o s).1 = tableAddr o s := addressPhase_ea o s

theorem writeAddress_quiet (o : Operand) (s : State) : Quiet (writeCycles o s - 1) s (writeAddress o s).2 := by
  have h := addressPhase_quiet o s
  simp only [writeCycles, ← addressPhase_indexed, Nat.add_sub_cancel]
  unfold writeAddress
  dsimp only
  cases (addressPhase o s).1.indexed
  · exact h
  · exact h.trans (dummyRead_quiet _ _)

theorem writeCycles_pos (o : Operand) (s : State) : writeCycles o s - 1 + 1 = writeCycles o s := by
  simp only [writeCycles]
  omega

end Sys2Proof.Machine
end

