-- ==== Sys2Proof/Laws/Store.lean ====
section
/-! SUPPORT. What a write cycle stores and keeps, how the frames of stores compose, and the frames of the write and
read-modify-write operand accesses (rules R64, R151). -/

namespace Sys2Proof.Machine

/-! ## The mapper below 0x8000 -/

theorem Mapper.cpuWrite_low (m : Mapper) {a : Nat} (d : Byte) (stamp : BitVec 64) (h : a < 0x8000) :
    m.cpuWrite a d stamp = m ∨
      ∃ k, m = .mmc1 k ∧ m.cpuWrite a d stamp = .mmc1 { k with lastWrite := some stamp } := by
  cases m with
  | mmc1 k => exact .inr ⟨k, rfl, by simp [Mapper.cpuWrite, Mmc1.cpuWrite, h]⟩
  | _ => exact .inl (by simp [Mapper.cpuWrite, h])

theorem Mapper.cpuWrite_low_writable (m : Mapper) {a : Nat} (d : Byte) (stamp : BitVec 64) (h : a < 0x8000) :
    (m.cpuWrite a d stamp).prgRamWritable = m.prgRamWritable := by
  obtain e | ⟨k, e, e'⟩ := m.cpuWrite_low d stamp h
  · rw [e]
  · rw [e', e]
    rfl

theorem Cart.cpuWrite_prgOffset (c : Cart) {a : Nat} (d : Byte) (stamp : BitVec 64) (h : a < 0x8000) (b : Nat) :
    (c.cpuWrite a d stamp).prgOffset b = c.prgOffset b := by
  obtain e | ⟨k, e, e'⟩ := c.mapper.cpuWrite_low d stamp h
  · have e2 : (c.cpuWrite a d stamp).mapper = c.mapper := e
    simp only [Cart.prgOffset, e2]
    rfl
  · have e2 : (c.cpuWrite a d stamp).mapper = .mmc1 { k with lastWrite := some stamp } := e'
    simp only [Cart.prgOffset, e2, e]
    rfl

/-- A write to PRG-RAM is seen at its own address alone; any other write below 0x8000 changes no byte shown. -/
theorem Cart.cpuRead?_cpuWrite (c : Cart) {a : Nat} (d : Byte) (stamp : BitVec 64) (h : a < 0x8000) {b : Nat}
    (hb : b ≠ a) : (c.cpuWrite a d stamp).cpuRead? b = c.cpuRead? b := by
  simp only [Cart.cpuRead?, c.cpuWrite_prgOffset d stamp h]
  split
  · rfl
  · split
    · next h6 h8 =>
      show (if c.prgRamPresent = true then _ else none) = _
      congr 2
      simp only [Cart.cpuWrite]
      split
      · next hc =>
        simp only [Bool.and_eq_true, decide_eq_true_eq] at hc
        exact Memory.read_write_other (by omega)
      · rfl
    · rfl

theorem Cart.cpuRead?_regWriteCart (p : Ppu) (c : Cart) (r : Nat) (d : Byte) (a : Nat) :
    (p.regWriteCart c r d).cpuRead? a = c.cpuRead? a := by
  unfold Ppu.regWriteCart Cart.ppuWrite
  split_ifs <;> rfl

theorem regWriteCart_keeps (p : Ppu) (c : Cart) (r : Nat) (d : Byte) :
    (p.regWriteCart c r d).prg = c.prg ∧ (p.regWriteCart c r d).prgRam = c.prgRam ∧
      (p.regWriteCart c r d).prgBanks = c.prgBanks ∧ (p.regWriteCart c r d).chrBanks = c.chrBanks ∧
      (p.regWriteCart c r d).mirroring = c.mirroring ∧ (p.regWriteCart c r d).prgRamPresent = c.prgRamPresent ∧
      (p.regWriteCart c r d).mapper = c.mapper := by
  unfold Ppu.regWriteCart Cart.ppuWrite
  split_ifs <;> exact ⟨rfl, rfl, rfl, rfl, rfl, rfl, rfl⟩

theorem regWriteCart_battery (p : Ppu) (c : Cart) (r : Nat) (d : Byte) :
    (p.regWriteCart c r d).battery = c.battery := by
  unfold Ppu.regWriteCart Cart.ppuWrite
  split_ifs <;> rfl

/-! ## One write -/

theorem sameCell_self (a : Word) : sameCell a a = true := by simp [sameCell]

theorem sameCell_false {a b : Word} (h : sameCell a b = false) : a ≠ b ∧
    (a.toNat < 0x2000 → b.toNat < 0x2000 → a.toNat % 0x800 ≠ b.toNat % 0x800) := by
  simp only [sameCell, Bool.or_eq_false_iff, beq_eq_false_iff_ne, Bool.and_eq_false_iff, decide_eq_false_iff_not] at h
  refine ⟨h.1, fun ha hb e => ?_⟩
  obtain (h1 | h1) | h1 := h.2
  · exact h1 ha
  · exact h1 hb
  · exact absurd e (by simpa using h1)

theorem sameCell_true {a b : Word} (h : sameCell a b = true) (hb : b.toNat < 0x2000) :
    a.toNat < 0x2000 ∧ a.toNat % 0x800 = b.toNat % 0x800 := by
  simp only [sameCell, Bool.or_eq_true, beq_iff_eq, Bool.and_eq_true, decide_eq_true_eq] at h
  obtain rfl | h := h
  · exact ⟨hb, rfl⟩
  · exact ⟨h.1.1, h.2⟩

/-- `StoresAt` reads only memory and the cartridge. -/
theorem StoresAt.congr {ea : Word} {v : Byte} {s t u : State} (h : StoresAt ea v s t) (hb : ∀ a, memByte u a = memByte t a)
    (hc : u.chips = t.chips) : StoresAt ea v s u := by
  simp only [State.chips, List.cons.injEq, and_true] at hc
  obtain ⟨c1, -, c3, c4, c5, c6, c7⟩ := hc
  refine ⟨fun e a k => (hb a).trans (h.1 e a k), fun e a k => (hb a).trans (h.2.1 e a k),
    fun e1 e2 e3 e4 => (hb ea).trans (h.2.2.1 e1 e2 e3 e4), fun e => c1.trans (h.2.2.2.1 e),
    fun e => c3.trans (h.2.2.2.2.1 e), fun e => ?_⟩
  obtain ⟨k1, k2, k3, k4⟩ := h.2.2.2.2.2 e
  exact ⟨c4.trans k1, c5.trans k2, c6.trans k3, c7.trans k4⟩

theorem busWrite_keepsPlatform (a : Word) (d : Byte) (s : State) : KeepsPlatform s (busWrite a d s) := by
  have hp := regWriteCart_keeps s.ppu s.cart (a.toNat % 8) d
  unfold busWrite deviceWrite Pads.strobeWrite
  split_ifs
  · exact ⟨rfl, rfl, rfl, rfl, rfl, rfl, rfl, rfl, rfl, rfl, rfl⟩
  · exact ⟨rfl, rfl, rfl, rfl, hp.2.2.1, hp.1, hp.2.2.2.1, hp.2.2.2.2.1, hp.2.2.2.2.2.1,
      regWriteCart_battery _ _ _ _, rfl⟩
  all_goals exact ⟨rfl, rfl, rfl, rfl, rfl, rfl, rfl, rfl, rfl, rfl, rfl⟩

theorem busWrite_keepsPending (a : Word) (d : Byte) (s : State) : KeepsPending s (busWrite a d s) := by
  unfold busWrite deviceWrite
  split_ifs
  all_goals first
    | exact ⟨id, le_refl _, List.prefix_refl _, rfl⟩
    | exact ⟨id, (Nat.le_add_right _ 513).trans (Nat.le_add_right _ _), List.prefix_append _ _, rfl⟩

theorem deviceWrite_ram {a : Nat} (d : Byte) (s : State) (h : 0x2000 ≤ a) : (deviceWrite a d s).ram = s.ram := by
  unfold deviceWrite
  rw [if_neg (by omega)]
  split_ifs <;> rfl

theorem deviceWrite_lowCart {a : Nat} (d : Byte) (s : State) (h : a < 0x8000) {b : Nat} (hb : b ≠ a) :
    (deviceWrite a d s).cart.cpuRead? b = s.cart.cpuRead? b := by
  unfold deviceWrite
  split_ifs
  all_goals first
    | rfl
    | exact Cart.cpuRead?_regWriteCart _ _ _ _ _
    | exact s.cart.cpuRead?_cpuWrite d s.cycles h hb

theorem deviceWrite_writable {a : Nat} (d : Byte) (s : State) (h : a < 0x8000) :
    (deviceWrite a d s).cart.mapper.prgRamWritable = s.cart.mapper.prgRamWritable := by
  unfold deviceWrite
  split_ifs
  all_goals first
    | rfl
    | exact congrArg Mapper.prgRamWritable (regWriteCart_keeps s.ppu s.cart (a % 8) d).2.2.2.2.2.2
    | exact s.cart.mapper.cpuWrite_low_writable d s.cycles h

theorem busWrite_storesAt (a : Word) (d : Byte) {s : State} (hw : s.wf = true) : StoresAt a d s (busWrite a d s) := by
  have hram : s.ram.wf 0x800 = true := (State.wf_iff s).1 hw |>.1
  have hcart : s.cart.wf = true := (State.wf_iff s).1 hw |>.2.2.2.2
  refine ⟨fun h b hb => ?_, fun h b hb => ?_, fun h1 h2 h3 h4 => ?_, fun h => deviceWrite_ram d s h, fun h => ?_,
    fun h => ?_⟩
  · obtain ⟨hne, hcell⟩ := sameCell_false hb
    have hn : b.toNat ≠ a.toNat := fun e => hne (BitVec.eq_of_toNat_eq e)
    show (if b.toNat < 0x2000 then some ((deviceWrite a.toNat d s).ram.read (b.toNat % 0x800))
      else if b.toNat < 0x4020 then none else (deviceWrite a.toNat d s).cart.cpuRead? b.toNat) = memByte s b
    unfold memByte
    rw [deviceWrite_lowCart d s h hn]
    by_cases hb2 : b.toNat < 0x2000
    · rw [if_pos hb2, if_pos hb2]
      by_cases ha2 : a.toNat < 0x2000
      · simp only [deviceWrite, if_pos ha2]
        rw [Memory.read_write_other (hcell hb2 ha2)]
      · rw [deviceWrite_ram d s (by omega)]
    · rw [if_neg hb2, if_neg hb2]
  · obtain ⟨hb2, hidx⟩ := sameCell_true hb h
    show (if b.toNat < 0x2000 then some ((deviceWrite a.toNat d s).ram.read (b.toNat % 0x800))
      else if b.toNat < 0x4020 then none else (deviceWrite a.toNat d s).cart.cpuRead? b.toNat) = some d
    rw [if_pos hb2, hidx]
    simp only [deviceWrite, if_pos h]
    rw [Memory.read_write_same hram]
  · show (if a.toNat < 0x2000 then some ((deviceWrite a.toNat d s).ram.read (a.toNat % 0x800))
      else if a.toNat < 0x4020 then none else (deviceWrite a.toNat d s).cart.cpuRead? a.toNat) = some d
    rw [if_neg (by omega), if_neg (by omega)]
    rw [deviceWrite_cart d s (by omega)]
    simp only [Cart.cpuRead?, Cart.cpuWrite, if_neg (show ¬a.toNat < 0x6000 by omega), if_pos h2, h3, h4]
    simp only [Bool.and_true, decide_true, if_true, h1, h2]
    rw [Memory.read_write_same ((Cart.wf_iff s.cart).1 hcart).2.2.1]
  · show (deviceWrite a.toNat d s).cart.prgRam = s.cart.prgRam
    unfold deviceWrite
    split_ifs
    all_goals first
      | rfl
      | exact (regWriteCart_keeps s.ppu s.cart (a.toNat % 8) d).2.1
      | skip
    simp only [Cart.cpuWrite]
    split
    · next hc =>
      simp only [Bool.and_eq_true, decide_eq_true_eq] at hc
      exact absurd ⟨hc.1.1.1, hc.1.1.2⟩ h
    · rfl
  · show (deviceWrite a.toNat d s).cart.chr = s.cart.chr ∧ (deviceWrite a.toNat d s).ppu.oam = s.ppu.oam ∧
      (deviceWrite a.toNat d s).ppu.palette = s.ppu.palette ∧ (deviceWrite a.toNat d s).ppu.vram = s.ppu.vram
    unfold deviceWrite
    split_ifs
    all_goals first
      | exact ⟨rfl, rfl, rfl, rfl⟩
      | exact absurd ⟨by omega, by omega⟩ h

/-! ## Stores -/

/-- `StoresOnly`, with what later stores to the same address need. -/
def Stores (ea : Word) (v : Byte) (n : Nat) (s t : State) : Prop :=
  StoresOnly ea v n s t ∧
    (ea.toNat < 0x8000 → t.cart.mapper.prgRamWritable = s.cart.mapper.prgRamWritable) ∧ t.wf = true

theorem Quiet.chips {n : Nat} {s t : State} (h : Quiet n s t) : t.chips = s.chips := h.1.2.1.1

theorem memWrite_stores (a : Word) (d : Byte) {s : State} (hw : s.wf = true) : Stores a d 1 s (memWrite a d s) := by
  have hq := endCycle_quiet (busWrite a d s)
  refine ⟨⟨(busWrite_keepsPlatform a d s).trans hq.1.1, (busWrite_storesAt a d hw).congr hq.memByte hq.chips,
    (busWrite_keepsPending a d s).trans hq.1.2.2.1, memWrite_cycles a d s⟩, fun h => ?_, memWrite_wf a d hw⟩
  exact hq.2.trans (deviceWrite_writable d s h)

theorem StoresAt.afterQuiet {ea : Word} {v : Byte} {n : Nat} {s t u : State} (h : Quiet n s t) (k : StoresAt ea v t u) :
    StoresAt ea v s u := by
  have hc := h.chips
  simp only [State.chips, List.cons.injEq, and_true] at hc
  obtain ⟨c1, -, c3, c4, c5, c6, c7⟩ := hc
  have hp := h.1.1.2.2.2.2.2.2.2.2.1
  refine ⟨fun e a q => (k.1 e a q).trans (h.memByte a), k.2.1,
    fun e1 e2 e3 e4 => k.2.2.1 e1 e2 (hp.trans e3) (h.2.trans e4), fun e => (k.2.2.2.1 e).trans c1,
    fun e => (k.2.2.2.2.1 e).trans c3, fun e => ?_⟩
  obtain ⟨k1, k2, k3, k4⟩ := k.2.2.2.2.2 e
  exact ⟨k1.trans c4, k2.trans c5, k3.trans c6, k4.trans c7⟩

/-- Reads before a store. -/
theorem Stores.afterQuiet {ea : Word} {v : Byte} {m n : Nat} {s t u : State} (h : Quiet m s t) (k : Stores ea v n t u) :
    Stores ea v (m + n) s u :=
  ⟨⟨h.1.1.trans k.1.1, k.1.2.1.afterQuiet h, h.1.2.2.1.trans k.1.2.2.1, cycles_trans h.1.2.2.2 k.1.2.2.2⟩,
    fun e => (k.2.1 e).trans h.2, k.2.2⟩

/-- A second store at the same address. -/
theorem Stores.again {ea : Word} {v w : Byte} {m n : Nat} {s t u : State} (h : Stores ea v m s t)
    (k : Stores ea w n t u) : Stores ea w (m + n) s u := by
  obtain ⟨⟨hp, ha, hk, hcy⟩, hwr, -⟩ := h
  obtain ⟨⟨kp, ka, kk, kcy⟩, kwr, kwf⟩ := k
  refine ⟨⟨hp.trans kp, ⟨fun e a q => (ka.1 e a q).trans (ha.1 e a q), ka.2.1,
    fun e1 e2 e3 e4 => ka.2.2.1 e1 e2 (hp.2.2.2.2.2.2.2.2.1.trans e3) ((hwr e2).trans e4),
    fun e => (ka.2.2.2.1 e).trans (ha.2.2.2.1 e), fun e => (ka.2.2.2.2.1 e).trans (ha.2.2.2.2.1 e), fun e => ?_⟩,
    hk.trans kk, cycles_trans hcy kcy⟩, fun e => (kwr e).trans (hwr e), kwf⟩
  obtain ⟨h1, h2, h3, h4⟩ := ha.2.2.2.2.2 e
  obtain ⟨k1, k2, k3, k4⟩ := ka.2.2.2.2.2 e
  exact ⟨k1.trans h1, k2.trans h2, k3.trans h3, k4.trans h4⟩

/-- A store does not look at the registers of the state reached. -/
theorem Stores.ofDevices {ea : Word} {v : Byte} {n : Nat} {s t t' : State} (h : Stores ea v n s t)
    (e : t'.devices = t.devices) : Stores ea v n s t' := by
  have e2 : t' = { t with a := t'.a, x := t'.x, y := t'.y, s := t'.s, pc := t'.pc, p := t'.p } := by
    cases t
    cases t'
    simp only [State.devices, State.mk.injEq] at e
    simp [e]
  rw [e2]
  exact h

theorem addressPhase_run (o : Operand) (s : State) : BusRun s (writeAddress o s).2 := (BusRun.refl s).writeAddress o

/-- `WriteOperand(v)`: what it stores and keeps, in Table 40-A's cycles. -/
theorem writeOperand_stores (o : Operand) (v : Byte) {s : State} (hw : s.wf = true) :
    Stores (tableAddr o s) v (writeCycles o s) s (writeOperand o v s) := by
  have hw' := (addressPhase_run o s).wf hw
  have h := (memWrite_stores (writeAddress o s).1 v hw').afterQuiet (writeAddress_quiet o s)
  rw [writeCycles_pos, writeAddress_ea] at h
  simp only [writeOperand, writeAddress_ea]
  exact h

/-- `ModifyOperand(f)`'s accesses: what they store and keep. -/
theorem modifyAccesses_stores (o : Operand) (v : Byte) {s : State} (hw : s.wf = true) :
    Stores (tableAddr o s) v (writeCycles o s + 2) s (modifyAccesses o v s) := by
  have hw' := (addressPhase_run o s).wf hw
  have hr := (writeAddress_quiet o s).trans (memRead_quiet (writeAddress o s).1 (writeAddress o s).2)
  have h1 := memWrite_stores (writeAddress o s).1 (modifiedByte o s) (memRead_wf (writeAddress o s).1 hw')
  have h := (h1.again (memWrite_stores _ v h1.2.2)).afterQuiet hr
  simp only [writeAddress_ea, writeCycles_pos] at h
  simp only [modifyAccesses, writeAddress_ea]
  exact h

end Sys2Proof.Machine
end

