-- ==== Sys2Proof/Laws/Effect.lean ====
section
/-! SUPPORT. One lemma per access class: what an instruction of the class does, from what its effect does to the
registers. -/

namespace Sys2Proof.Machine

/-! ## Register writes leave the devices alone -/

section
variable (s : State) (v r m : Byte) (w : Word) (p : Flags) (q : ShiftResult)

@[simp] theorem devices_setA : (s.setA v).devices = s.devices := rfl
@[simp] theorem devices_setX : (s.setX v).devices = s.devices := rfl
@[simp] theorem devices_setY : (s.setY v).devices = s.devices := rfl
@[simp] theorem devices_setS : (s.setS v).devices = s.devices := rfl
@[simp] theorem devices_setPc : (s.setPc w).devices = s.devices := rfl
@[simp] theorem devices_setP : (s.setP p).devices = s.devices := rfl
@[simp] theorem devices_setNZ : (s.setNZ v).devices = s.devices := rfl
@[simp] theorem devices_addA : (s.addA v).devices = s.devices := rfl
@[simp] theorem devices_compare : (s.compare r m).devices = s.devices := rfl
@[simp] theorem devices_combine : (s.combine q v).devices = s.devices := rfl

end

theorem readOperand_regs (src : Source) (s : State) : (readOperand src s).2.regs = s.regs := by
  simp [State.regs]

theorem writeAddress_regs (o : Operand) (s : State) : (writeAddress o s).2.regs = s.regs := by
  simp [State.regs]

theorem dummyRead_regs (a : Word) (s : State) : (dummyRead a s).regs = s.regs := by
  simp [State.regs]

/-! ## The access classes -/

theorem reads_of {i : Instr} {src : Source} {s : State} {r : Regs} {f : Byte → State → State}
    (hi : exec i s = .next (readThen src f s))
    (hd : (f (operandByte src s) (readOperand src s).2).devices = (readOperand src s).2.devices)
    (hr : (f (operandByte src s) (readOperand src s).2).regs = r) : Reads i src s r :=
  ⟨_, hi, hr, hd, ((readOperand_quiet src s).ofDevices hd).1⟩

theorem implied_of {i : Instr} {s : State} {r : Regs} {f : State → State}
    (hi : exec i s = .next (impliedThen f s)) (hd : (f (implied s)).devices = (implied s).devices)
    (hr : (f (implied s)).regs = r) : Implied i s r :=
  ⟨_, hi, hr, hd, ((implied_quiet s).ofDevices hd).1⟩

theorem writes_of {i : Instr} {o : Operand} {s : State} {v : Byte} (hw : s.wf = true)
    (hi : exec i s = .next (writeOperand o v s)) : Writes i o s v := by
  refine ⟨_, hi, ?_, rfl, (writeOperand_stores o v hw).1⟩
  simp [State.regs, writeOperand]

/-- The state in which a modify function runs. -/
def modifyState (o : Operand) (s : State) : State :=
  memWrite (writeAddress o s).1 (modifiedByte o s) (memRead (writeAddress o s).1 (writeAddress o s).2).2

theorem modifyState_regs (o : Operand) (s : State) : (modifyState o s).regs = s.regs := by
  simp [State.regs, modifyState]

/-- Two machines with the same devices differ in their registers alone. -/
theorem eq_of_devices {s t : State} (h : t.devices = s.devices) :
    t = { s with a := t.a, x := t.x, y := t.y, s := t.s, pc := t.pc, p := t.p } := by
  cases s
  cases t
  simp only [State.devices, State.mk.injEq] at h
  simp [h]

/-- The devices see no register: the rest of a machine in place of the registers. -/
theorem deviceWrite_devices (n : Nat) (d : Byte) {s t : State} (h : t.devices = s.devices) :
    (deviceWrite n d t).devices = (deviceWrite n d s).devices := by
  rw [eq_of_devices h]
  unfold deviceWrite
  split_ifs <;> rfl

theorem deviceRead_devices (n : Nat) {s t : State} (h : t.devices = s.devices) :
    (deviceRead n t).1 = (deviceRead n s).1 ∧ (deviceRead n t).2.devices = (deviceRead n s).2.devices := by
  rw [eq_of_devices h]
  unfold deviceRead
  split_ifs <;> exact ⟨rfl, rfl⟩

theorem endCycle_devices {s t : State} (h : t.devices = s.devices) : (endCycle t).devices = (endCycle s).devices := by
  rw [eq_of_devices h]
  rfl

/-- A bus write does not look at the registers. -/
theorem memWrite_devices (a : Word) (d : Byte) {s t : State} (h : t.devices = s.devices) :
    (memWrite a d t).devices = (memWrite a d s).devices :=
  endCycle_devices (congrArg (fun q : State => { q with openBus := d }) (deviceWrite_devices a.toNat d h))

/-- A bus read does not look at the registers. -/
theorem memRead_devices (a : Word) {s t : State} (h : t.devices = s.devices) :
    (memRead a t).1 = (memRead a s).1 ∧ (memRead a t).2.devices = (memRead a s).2.devices := by
  have r := deviceRead_devices a.toNat h
  refine ⟨r.1, endCycle_devices ?_⟩
  show ({ (deviceRead a.toNat t).2.devices with openBus := (deviceRead a.toNat t).1 } : State) = _
  rw [r.1, r.2]
  rfl

theorem modifies_of {i : Instr} {o : Operand} {s : State} {v : Byte} {r : Regs} {f : Byte → State → Byte × State}
    (hw : s.wf = true) (hi : exec i s = .next (modifyOperand o f s))
    (hv : (f (modifiedByte o s) (modifyState o s)).1 = v)
    (hd : (f (modifiedByte o s) (modifyState o s)).2.devices = (modifyState o s).devices)
    (hr : (f (modifiedByte o s) (modifyState o s)).2.regs = r) : Modifies i o s v r := by
  have hdev := memWrite_devices (writeAddress o s).1 v hd
  have e : modifyOperand o f s = memWrite (writeAddress o s).1 v (f (modifiedByte o s) (modifyState o s)).2 := by
    rw [← hv]
    rfl
  refine ⟨_, hi, ?_, ?_, ?_⟩
  · rw [e, ← hr]
    simp [State.regs]
  · rw [e]
    exact hdev
  · rw [e]
    exact ((modifyAccesses_stores o v hw).ofDevices hdev).1

end Sys2Proof.Machine
end

