-- ==== Sys2Proof/Laws/Access.lean ====
section
/-! SUPPORT. Sequences as lists of bus accesses: a bus cycle does not look at the registers, so what the devices see of a
sequence is its accesses alone; and what dropping the owed stall cycles leaves. -/

namespace Sys2Proof.Machine

variable {s t : State}

theorem Access.cycle_devices (x : Access) (h : t.devices = s.devices) : (x.cycle t).devices = (x.cycle s).devices := by
  cases x with
  | read a => exact (memRead_devices a h).2
  | write a d => exact memWrite_devices a d h

/-- Two machines whose devices are equal stay so over the same accesses. -/
theorem accesses_devices (l : List Access) (h : t.devices = s.devices) : (accesses l t).devices = (accesses l s).devices := by
  induction l generalizing s t with
  | nil => exact h
  | cons x l ih => exact ih (x.cycle_devices h)

@[simp] theorem accesses_nil : accesses [] s = s := rfl
@[simp] theorem accesses_cons (x : Access) (l : List Access) : accesses (x :: l) s = accesses l (x.cycle s) := rfl

theorem accesses_append (l k : List Access) : accesses (l ++ k) s = accesses k (accesses l s) := List.foldl_append ..

/-- One access more, on a machine with the same devices. -/
theorem devices_then {l : List Access} (x : Access) (h : t.devices = (accesses l s).devices) :
    (x.cycle t).devices = (accesses (l ++ [x]) s).devices := by
  rw [accesses_append]
  exact x.cycle_devices h

theorem dummyRead_then {l : List Access} (a : Word) (h : t.devices = (accesses l s).devices) :
    (dummyRead a t).devices = (accesses (l ++ [.read a]) s).devices := by
  have e : dummyRead a t = (Access.read a).cycle t := rfl
  rw [e]
  exact devices_then _ h

theorem push_then {l : List Access} (d : Byte) (h : t.devices = (accesses l s).devices) :
    (push d t).devices = (accesses (l ++ [.write (stackAddr t.s) d]) s).devices := by
  have e : push d t = ((Access.write (stackAddr t.s) d).cycle t).setS (t.s - 1#8) := rfl
  rw [e, devices_setS]
  exact devices_then _ h

theorem pull_then {l : List Access} (h : t.devices = (accesses l s).devices) :
    (pull t).2.devices = (accesses (l ++ [.read (stackAddr (t.s + 1#8))]) s).devices := by
  have e : (pull t).2 = (Access.read (stackAddr (t.s + 1#8))).cycle (t.setS (t.s + 1#8)) := rfl
  rw [e]
  exact devices_then _ (devices_setS t _ ▸ h)

theorem loadVector_then {l : List Access} (v : Word) (h : t.devices = (accesses l s).devices) :
    (loadVector v t).devices = (accesses (l ++ [.read v] ++ [.read (v + 1#16)]) s).devices := by
  have h1 := devices_then (.read v) h
  unfold loadVector
  rw [devices_setPc]
  exact devices_then (.read (v + 1#16)) h1

theorem pushPc_then {l : List Access} (h : t.devices = (accesses l s).devices) :
    (pushPc t).devices =
      (accesses (l ++ [.write (stackAddr t.s) (hi t.pc)] ++ [.write (stackAddr (t.s - 1#8)) (lo t.pc)]) s).devices := by
  have h2 := push_then (lo t.pc) (push_then (hi t.pc) h)
  rw [push_s] at h2
  exact h2

theorem enterVector_then {l : List Access} (b : Bool) (v : Word) (h : t.devices = (accesses l s).devices) :
    (enterVector b v t).devices =
      (accesses (l ++ [.write (stackAddr t.s) (t.p.pack b)] ++ [.read v] ++ [.read (v + 1#16)]) s).devices := by
  have h1 := push_then (t.p.pack b) h
  unfold enterVector
  refine loadVector_then v ?_
  rw [devices_setP]
  exact h1

theorem resetStackRead_then {l : List Access} (h : t.devices = (accesses l s).devices) :
    (resetStackRead t).devices = (accesses (l ++ [.read (stackAddr t.s)]) s).devices := by
  unfold resetStackRead
  rw [devices_setS]
  exact dummyRead_then _ h

@[simp] theorem resetStackRead_s : (resetStackRead s).s = s.s - 1#8 := rfl

/-! ## Dropping the owed stall cycles -/

/-- Dropping what is owed is the same on two machines whose devices are equal. -/
theorem dropStall_devices (h : t.devices = s.devices) : t.dropStall.devices = s.dropStall.devices :=
  congrArg State.dropStall h

/-- Consuming a pending NMI is the same on two machines whose devices are equal. -/
theorem clearNmi_devices (h : t.devices = s.devices) :
    ({ t with nmiPending := false } : State).devices = ({ s with nmiPending := false } : State).devices :=
  congrArg (fun q : State => { q with nmiPending := false }) h

theorem nmiPending_of_devices (h : t.devices = s.devices) : t.nmiPending = s.nmiPending := by
  have e := congrArg State.nmiPending h
  exact e

@[simp] theorem State.dropStall_wf : s.dropStall.wf = s.wf := rfl
@[simp] theorem State.dropStall_latches : s.dropStall.latchesSampled = s.latchesSampled := rfl
@[simp] theorem State.dropStall_accounted : s.dropStall.stallAccounted = true := rfl
@[simp] theorem State.dropStall_regs : s.dropStall.regs = s.regs := rfl
@[simp] theorem State.dropStall_chips : s.dropStall.chips = s.chips := rfl
@[simp] theorem memByte_dropStall (a : Word) : memByte s.dropStall a = memByte s a := rfl

end Sys2Proof.Machine
end

