-- ==== Sys2Proof/Laws/Decode.lean ====
section
/-! SUPPORT. Decoding by length: what `decode` gives for an opcode of one, two or three bytes (rule R100). -/

namespace Sys2Proof

theorem decode_ok {op : Byte} {rest : List Byte} (h : opLength op ≤ rest.length + 1) :
    decode (op :: rest) = .ok (instrOf op (rest.getD 0 0#8) (rest.getD 1 0#8), rest.drop (opLength op - 1)) :=
  if_neg (Nat.not_lt.2 h)

theorem decode_missing {op : Byte} {rest : List Byte} (h : rest.length + 1 < opLength op) :
    decode (op :: rest) = .error (.missingOperand op) :=
  if_pos h

theorem decode_one {op : Byte} {i : Instr} (h : opLength op = 1) (hi : ∀ b1 b2, instrOf op b1 b2 = i)
    (rest : List Byte) : decode (op :: rest) = .ok (i, rest) := by
  rw [decode_ok (by omega), h, hi]
  rfl

theorem decode_two {op : Byte} {f : Byte → Instr} (h : opLength op = 2) (hi : ∀ b1 b2, instrOf op b1 b2 = f b1)
    (b : Byte) (rest : List Byte) : decode (op :: b :: rest) = .ok (f b, rest) := by
  rw [decode_ok (by simp [h]), h, hi]
  rfl

theorem decode_three {op : Byte} {f : Word → Instr} (h : opLength op = 3)
    (hi : ∀ b1 b2, instrOf op b1 b2 = f (mkWord b2 b1)) (l u : Byte) (rest : List Byte) :
    decode (op :: l :: u :: rest) = .ok (f (mkWord u l), rest) := by
  rw [decode_ok (by simp [h]), h, hi]
  rfl

/-- The length column holds 1, 2 or 3 only. -/
theorem opLength_cases (op : Byte) : opLength op = 1 ∨ opLength op = 2 ∨ opLength op = 3 := by
  have h : ∀ k : Fin 256, opLength (BitVec.ofFin k) = 1 ∨ opLength (BitVec.ofFin k) = 2 ∨ opLength (BitVec.ofFin k) = 3 := by
    decide +kernel
  exact h op.toFin

end Sys2Proof
end

