-- ==== Sys2Proof/Laws/Device.lean ====
section
/-! SUPPORT. The bus by address range, the position and the vblank flag of the PPU dot by dot, what a cycle leaves alone
while NMI is disabled or the DMC is inactive, and runs of steps (rules R65, R320, R353, R354, R366). -/

namespace Sys2Proof.Machine

/-! ## The bus by address range -/

theorem busRead_eq (a : Word) (s : State) :
    busRead a s =
      ((deviceRead a.toNat s).1, { (deviceRead a.toNat s).2 with openBus := (deviceRead a.toNat s).1 }) := rfl

theorem busWrite_eq (a : Word) (d : Byte) (s : State) :
    busWrite a d s = { deviceWrite a.toNat d s with openBus := d } := rfl

theorem deviceRead_ppu {a : Nat} (s : State) (h : 0x2000 ≤ a) (h2 : a < 0x4000) :
    deviceRead a s = ((s.ppu.regRead s.cart s.openBus (a % 8)).1,
      { s with ppu := (s.ppu.regRead s.cart s.openBus (a % 8)).2 }) := by
  unfold deviceRead
  rw [if_neg (by omega), if_pos h2]

theorem deviceWrite_ppu {a : Nat} (d : Byte) (s : State) (h : 0x2000 ≤ a) (h2 : a < 0x4000) :
    deviceWrite a d s =
      { s with ppu := s.ppu.regWrite s.cart (a % 8) d, cart := s.ppu.regWriteCart s.cart (a % 8) d } := by
  unfold deviceWrite
  rw [if_neg (by omega), if_pos h2]

theorem deviceWrite_rom {a : Nat} (d : Byte) (s : State) (h : 0x8000 ≤ a) :
    deviceWrite a d s = { s with cart := s.cart.cpuWrite a d s.cycles } := by
  exact deviceWrite_cart d s (by omega)

theorem deviceRead_rom {a : Nat} (s : State) (h : 0x8000 ≤ a) (hp : 0 < s.cart.prgBanks) :
    deviceRead a s = (s.cart.prg.read (s.cart.prgOffset a), s) := by
  have hr : s.cart.cpuRead? a = some (s.cart.prg.read (s.cart.prgOffset a)) := by
    unfold Cart.cpuRead?
    split_ifs <;> first | omega | rfl
  rw [deviceRead_cart s (by omega), hr]
  rfl

/-- Where an address shows memory, a bus read gives the byte and changes the latch alone. -/
theorem busRead_memory {s : State} {a : Word} {b : Byte} (h : memByte s a = some b) :
    busRead a s = (b, { s with openBus := b }) := by
  have h1 : (deviceRead a.toNat s).1 = b := memRead_value h
  have h2 : (deviceRead a.toNat s).2 = s := by
    unfold memByte at h
    split_ifs at h with h1 h2
    · rw [deviceRead, if_pos h1]
    · rw [deviceRead_cart s (by omega)]
  rw [busRead_eq, h2, h1]

/-! ## The PPU dot by dot -/

theorem Ppu.nextPos_fields (p : Ppu) :
    p.nextPos.vblank = p.vblank ∧ p.nextPos.ctrl = p.ctrl ∧ p.nextPos.cancelVblank = p.cancelVblank ∧
      p.nextPos.oamAddr = p.oamAddr := by
  unfold Ppu.nextPos
  split_ifs <;> exact ⟨rfl, rfl, rfl, rfl⟩

theorem Ppu.tick_fields (p : Ppu) (n : Nat) :
    (p.tick n).vblank = p.dotVblank ∧ (p.tick n).ctrl = p.ctrl ∧
      (p.tick n).cancelVblank = (if p.atVblankSet then false else p.cancelVblank) ∧
      (p.tick n).oamAddr = p.oamAddr := by
  unfold Ppu.tick
  exact Ppu.nextPos_fields _

theorem Ppu.tick_pos (p : Ppu) (n : Nat) :
    (p.tick n).scanline = p.nextPos.scanline ∧ (p.tick n).dot = p.nextPos.dot := by
  unfold Ppu.tick Ppu.nextPos Ppu.rendering
  dsimp only
  split_ifs <;> exact ⟨rfl, rfl⟩

theorem runDots_fields (n : Nat) (p : Ppu) (m : Mapper) :
    (runDots n (p, m)).1.ctrl = p.ctrl ∧ (runDots n (p, m)).1.oamAddr = p.oamAddr := by
  simp only [runDots, runDot, (Ppu.tick_fields _ _).2.1, (Ppu.tick_fields _ _).2.2.2, and_self]

/-! ## With NMI disabled reads and stack writes raise no NMI -/

/-- PPUCTRL is kept, and with its bit 7 clear the pending NMI too. -/
def NmiKept (s t : State) : Prop :=
  t.ppu.ctrl = s.ppu.ctrl ∧ (s.ppu.ctrl.getLsbD 7 = false → t.nmiPending = s.nmiPending)

theorem NmiKept.trans {s t u : State} (h : NmiKept s t) (k : NmiKept t u) : NmiKept s u :=
  ⟨k.1.trans h.1, fun e => (k.2 (by rw [h.1]; exact e)).trans (h.2 e)⟩

theorem endCycle_nmiKept (s : State) : NmiKept s (endCycle s) := by
  refine ⟨(runDots_fields _ _ _).1, fun e => ?_⟩
  simp only [endCycle, Ppu.nmiLine, (runDots_fields _ _ _).1, e, Bool.and_false, Bool.false_and, Bool.or_false]

theorem Ppu.regRead_ctrl (p : Ppu) (c : Cart) (o : Byte) (r : Nat) : (p.regRead c o r).2.ctrl = p.ctrl := by
  unfold Ppu.regRead Ppu.statusRead Ppu.dataRead Ppu.advanceV
  split
  · rfl
  · rfl
  · dsimp only
    split <;> rfl
  · rfl

theorem deviceRead_latches (a : Nat) (s : State) :
    (deviceRead a s).2.nmiPending = s.nmiPending ∧ (deviceRead a s).2.nmiPrev = s.nmiPrev ∧
      (deviceRead a s).2.apu.dmcActive = s.apu.dmcActive ∧ (deviceRead a s).2.free = s.free ∧
      (deviceRead a s).2.ppu.ctrl = s.ppu.ctrl := by
  unfold deviceRead
  split_ifs <;> first | exact ⟨rfl, rfl, rfl, rfl, rfl⟩ | exact ⟨rfl, rfl, rfl, rfl, Ppu.regRead_ctrl _ _ _ _⟩

theorem memRead_nmiKept (a : Word) (s : State) : NmiKept s (memRead a s).2 :=
  NmiKept.trans (t := (busRead a s).2)
    ⟨(deviceRead_latches a.toNat s).2.2.2.2, fun _ => (deviceRead_latches a.toNat s).1⟩ (endCycle_nmiKept _)

/-! ## With the DMC inactive a cycle owes nothing -/

/-- An inactive DMC stays so, and nothing is added to what is owed. -/
def OwesNothing (s t : State) : Prop :=
  s.apu.dmcActive = false → t.apu.dmcActive = false ∧ t.stall = s.stall ∧ t.dma = s.dma

theorem OwesNothing.trans {s t u : State} (h : OwesNothing s t) (k : OwesNothing t u) : OwesNothing s u := fun e =>
  ⟨(k (h e).1).1, (k (h e).1).2.1.trans (h e).2.1, (k (h e).1).2.2.trans (h e).2.2⟩

theorem endCycle_owesNothing (s : State) : OwesNothing s (endCycle s) := by
  intro e
  refine ⟨?_, ?_, ?_⟩
  · simp [endCycle, Apu.tick, Apu.dmcCycle, Apu.frameCycle, e]
  · simp [endCycle, Apu.dmcRequests, e]
  · simp [endCycle, Apu.dmcRequests, e]

theorem memRead_owesNothing (a : Word) (s : State) : OwesNothing s (memRead a s).2 :=
  OwesNothing.trans (t := (busRead a s).2)
    (fun e => ⟨(deviceRead_latches a.toNat s).2.2.1.trans e, (busRead_dma a s).2, (busRead_dma a s).1⟩)
    (endCycle_owesNothing _)

/-! ## Runs of steps -/

theorem run_next (M : Host.Core) {n : Nat} {s s' : M.State} (h : M.step s = .next s') :
    M.run (n + 1) s = M.run n s' := by
  simp only [Host.Core.run, h]

/-- One more step at the end of a run. -/
theorem run_last (M : Host.Core) {n : Nat} {s t u : M.State} (h : M.run n s = .next t) (k : M.step t = .next u) :
    M.run (n + 1) s = .next u := by
  induction n generalizing s with
  | zero =>
    cases h
    exact run_next M k
  | succ n ih =>
    cases hs : M.step s with
    | next s' => rw [run_next M hs] at h ⊢; exact ih h
    | fault r => simp only [Host.Core.run, hs] at h; cases h
    | refused r => simp only [Host.Core.run, hs] at h; cases h

end Sys2Proof.Machine
end

