-- ==== Sys2Proof/Laws/Flags.lean ====
section
/-! SUPPORT. The machine's flag computations in the words of the spec: the adder's carry and overflow as comparisons of
exact sums, N and Z of a byte, the rotations (rules R13, R200, R206, R230). -/

namespace Sys2Proof.Machine

@[simp] theorem Flags.setNZ_eq (p : Flags) (v : Byte) : p.setNZ v = flagsNZ v p := rfl
@[simp] theorem Flags.compare_eq (p : Flags) (r m : Byte) : p.compare r m = flagsCompare r m p := rfl
@[simp] theorem Flags.afterShift_eq (p : Flags) (q : ShiftResult) : p.afterShift q = flagsNZ q.r { p with c := q.c } := rfl

/-- The adder's result and flags are those of rule R200 said with exact sums. -/
theorem add8_adder (a b : Byte) (cin : Bool) (p : Flags) :
    ((add8 a b cin).r, p.afterAdd (add8 a b cin)) = adder a b cin p := by
  have hr : (add8 a b cin).r = a + b + BitVec.ofNat 8 cin.toNat := by
    apply BitVec.eq_of_toNat_eq
    simp [add8]
  have ha := a.isLt
  have hb := b.isLt
  have hc : cin.toNat ≤ 1 := by cases cin <;> decide
  have hv : (add8 a b cin).v =
      decide (a.toInt + b.toInt + (cin.toNat : Int) < -128 ∨ 127 < a.toInt + b.toInt + (cin.toNat : Int)) := by
    have e : (add8 a b cin).v = ((a.msb ^^ (add8 a b cin).r.msb) && (b.msb ^^ (add8 a b cin).r.msb)) := by
      simp only [add8, BitVec.msb_eq_getLsbD_last, BitVec.getLsbD_and, BitVec.getLsbD_xor]
    have hrn : (add8 a b cin).r.toNat = (a.toNat + b.toNat + cin.toNat) % 256 := by simp [add8]
    rw [e]
    simp only [BitVec.msb_eq_decide, BitVec.toInt_eq_toNat_cond, hrn]
    by_cases h1 : 128 ≤ a.toNat <;> by_cases h2 : 128 ≤ b.toNat <;>
      by_cases h3 : 128 ≤ (a.toNat + b.toNat + cin.toNat) % 256 <;>
      simp [h1, h2, h3] <;> split <;> split <;> omega
  simp only [adder, Flags.afterAdd, Flags.setNZ, hr, hv, Prod.mk.injEq, true_and]
  have : (add8 a b cin).c = decide (0x100 ≤ a.toNat + b.toNat + cin.toNat) := rfl
  rw [this]

/-- An addition to A, by the adder of rule R200. -/
@[simp] theorem State.addA_eq (s : State) (b : Byte) :
    s.addA b = (s.setA (adder s.a b s.p.c s.p).1).setP (adder s.a b s.p.c s.p).2 := by
  rw [← add8_adder]
  rfl

@[simp] theorem State.compare_eq (s : State) (r m : Byte) : s.compare r m = s.setP (flagsCompare r m s.p) := rfl

@[simp] theorem State.combine_eq (s : State) (q : ShiftResult) (v : Byte) :
    s.combine q v = (s.setA v).setP (flagsNZ v { s.p with c := q.c }) := rfl

@[simp] theorem shiftWith_eq (f : Bool → Byte → ShiftResult) (m : Byte) (s : State) :
    shiftWith f m s = ((f s.p.c m).r, s.setP (flagsNZ (f s.p.c m).r { s.p with c := (f s.p.c m).c })) := rfl

@[simp] theorem aslByte_eq (m : Byte) : aslByte m = ⟨m <<< 1, m.getLsbD 7⟩ := rfl
@[simp] theorem lsrByte_eq (m : Byte) : lsrByte m = ⟨m >>> 1, m.getLsbD 0⟩ := rfl
@[simp] theorem rolByte_eq (c : Bool) (m : Byte) :
    rolByte c m = ⟨(m <<< 1) ||| BitVec.ofNat 8 c.toNat, m.getLsbD 7⟩ := by cases c <;> rfl
@[simp] theorem rorByte_eq (c : Bool) (m : Byte) :
    rorByte c m = ⟨(m >>> 1) ||| (BitVec.ofNat 8 c.toNat <<< 7), m.getLsbD 0⟩ := by cases c <;> rfl

/-- The adder overwrites N, V, Z and C: what they held before does not matter. -/
theorem adder_flags (a b : Byte) (cin : Bool) (p q : Flags) (hd : q.d = p.d) (hi : q.i = p.i) :
    adder a b cin q = adder a b cin p := by
  simp [adder, hd, hi]

end Sys2Proof.Machine
end

