-- ==== Sys2Proof/Laws/Instr.lean ====
section
/-! SUPPORT. One lemma per shared operation of the read and read-modify-write classes: everything an instruction that is
that operation does, in the terms of Safety.lean. -/

namespace Sys2Proof.Machine

variable {i : Instr} {src : Source} {o : Operand} {s : State}

@[simp] theorem modifyState_a (o : Operand) (s : State) : (modifyState o s).a = s.a := by simp [modifyState]
@[simp] theorem modifyState_x (o : Operand) (s : State) : (modifyState o s).x = s.x := by simp [modifyState]
@[simp] theorem modifyState_y (o : Operand) (s : State) : (modifyState o s).y = s.y := by simp [modifyState]
@[simp] theorem modifyState_s (o : Operand) (s : State) : (modifyState o s).s = s.s := by simp [modifyState]
@[simp] theorem modifyState_pc (o : Operand) (s : State) : (modifyState o s).pc = s.pc := by simp [modifyState]
@[simp] theorem modifyState_p (o : Operand) (s : State) : (modifyState o s).p = s.p := by simp [modifyState]

/-! ## Reads -/

theorem opLda_reads (h : exec i s = .next (opLda src s)) :
    let M := operandByte src s
    Reads i src s
      (M, s.x, s.y, s.s, s.pc, flagsNZ M s.p) :=
  reads_of h rfl (by simp [State.regs])

theorem opLdx_reads (h : exec i s = .next (opLdx src s)) :
    let M := operandByte src s
    Reads i src s
      (s.a, M, s.y, s.s, s.pc, flagsNZ M s.p) :=
  reads_of h rfl (by simp [State.regs])

theorem opLdy_reads (h : exec i s = .next (opLdy src s)) :
    let M := operandByte src s
    Reads i src s
      (s.a, s.x, M, s.s, s.pc, flagsNZ M s.p) :=
  reads_of h rfl (by simp [State.regs])

theorem opLax_reads (h : exec i s = .next (opLax src s)) :
    let M := operandByte src s
    Reads i src s
      (M, M, s.y, s.s, s.pc, flagsNZ M s.p) :=
  reads_of h rfl (by simp [State.regs])

theorem opAnd_reads (h : exec i s = .next (opAnd src s)) :
    let M := operandByte src s
    Reads i src s
      (s.a &&& M, s.x, s.y, s.s, s.pc, flagsNZ (s.a &&& M) s.p) :=
  reads_of h rfl (by simp [State.regs])

theorem opOra_reads (h : exec i s = .next (opOra src s)) :
    let M := operandByte src s
    Reads i src s
      (s.a ||| M, s.x, s.y, s.s, s.pc, flagsNZ (s.a ||| M) s.p) :=
  reads_of h rfl (by simp [State.regs])

theorem opEor_reads (h : exec i s = .next (opEor src s)) :
    let M := operandByte src s
    Reads i src s
      (s.a ^^^ M, s.x, s.y, s.s, s.pc, flagsNZ (s.a ^^^ M) s.p) :=
  reads_of h rfl (by simp [State.regs])

theorem opCmp_reads (h : exec i s = .next (opCmp src s)) :
    let M := operandByte src s
    Reads i src s
      (s.a, s.x, s.y, s.s, s.pc, flagsCompare s.a M s.p) :=
  reads_of h rfl (by simp [State.regs])

theorem opCpx_reads (h : exec i s = .next (opCpx src s)) :
    let M := operandByte src s
    Reads i src s
      (s.a, s.x, s.y, s.s, s.pc, flagsCompare s.x M s.p) :=
  reads_of h rfl (by simp [State.regs])

theorem opCpy_reads (h : exec i s = .next (opCpy src s)) :
    let M := operandByte src s
    Reads i src s
      (s.a, s.x, s.y, s.s, s.pc, flagsCompare s.y M s.p) :=
  reads_of h rfl (by simp [State.regs])

theorem opBit_reads (h : exec i s = .next (opBit src s)) :
    let M := operandByte src s
    Reads i src s
      (s.a, s.x, s.y, s.s, s.pc, { s.p with z := (s.a &&& M) == 0#8, n := M.getLsbD 7, v := M.getLsbD 6 }) :=
  reads_of h rfl (by simp [State.regs, Flags.bitTest])

theorem opAdc_reads (h : exec i s = .next (opAdc src s)) :
    let M := operandByte src s
    Reads i src s
      ((adder s.a M s.p.c s.p).1, s.x, s.y, s.s, s.pc, (adder s.a M s.p.c s.p).2) :=
  reads_of h rfl (by simp [State.regs])

theorem opSbc_reads (h : exec i s = .next (opSbc src s)) :
    let M := operandByte src s
    Reads i src s
      ((adder s.a (~~~M) s.p.c s.p).1, s.x, s.y, s.s, s.pc, (adder s.a (~~~M) s.p.c s.p).2) :=
  reads_of h rfl (by simp [State.regs])

theorem opNop_reads (h : exec i s = .next (opNop src s)) :
    Reads i src s
      (s.a, s.x, s.y, s.s, s.pc, s.p) :=
  reads_of h rfl (by simp [State.regs])

/-! ## Modifies -/

theorem opInc_modifies (hw : s.wf = true) (h : exec i s = .next (opInc o s)) :
    let M := modifiedByte o s
    Modifies i o s (M + 1#8)
      (s.a, s.x, s.y, s.s, s.pc, flagsNZ (M + 1#8) s.p) :=
  modifies_of hw h (by simp) (by simp) (by simp [State.regs])

theorem opDec_modifies (hw : s.wf = true) (h : exec i s = .next (opDec o s)) :
    let M := modifiedByte o s
    Modifies i o s (M - 1#8)
      (s.a, s.x, s.y, s.s, s.pc, flagsNZ (M - 1#8) s.p) :=
  modifies_of hw h (by simp) (by simp) (by simp [State.regs])

theorem opDcp_modifies (hw : s.wf = true) (h : exec i s = .next (opDcp o s)) :
    let M := modifiedByte o s
    Modifies i o s (M - 1#8)
      (s.a, s.x, s.y, s.s, s.pc, flagsCompare s.a (M - 1#8) s.p) :=
  modifies_of hw h (by simp) (by simp) (by simp [State.regs])

theorem opIsc_modifies (hw : s.wf = true) (h : exec i s = .next (opIsc o s)) :
    let M := modifiedByte o s
    Modifies i o s (M + 1#8)
      ((adder s.a (~~~(M + 1#8)) s.p.c s.p).1, s.x, s.y, s.s, s.pc, (adder s.a (~~~(M + 1#8)) s.p.c s.p).2) :=
  modifies_of hw h (by simp) (by simp) (by simp [State.regs])

theorem opAsl_modifies (hw : s.wf = true) (h : exec i s = .next (opAsl o s)) :
    let M := modifiedByte o s
    Modifies i o s (M <<< 1)
      (s.a, s.x, s.y, s.s, s.pc, flagsNZ (M <<< 1) { s.p with c := M.getLsbD 7 }) :=
  modifies_of hw h (by simp) (by simp) (by simp [State.regs])

theorem opLsr_modifies (hw : s.wf = true) (h : exec i s = .next (opLsr o s)) :
    let M := modifiedByte o s
    Modifies i o s (M >>> 1)
      (s.a, s.x, s.y, s.s, s.pc, flagsNZ (M >>> 1) { s.p with c := M.getLsbD 0 }) :=
  modifies_of hw h (by simp) (by simp) (by simp [State.regs])

theorem opRol_modifies (hw : s.wf = true) (h : exec i s = .next (opRol o s)) :
    let M := modifiedByte o s
    Modifies i o s ((M <<< 1) ||| BitVec.ofNat 8 s.p.c.toNat)
      (s.a, s.x, s.y, s.s, s.pc, flagsNZ ((M <<< 1) ||| BitVec.ofNat 8 s.p.c.toNat) { s.p with c := M.getLsbD 7 }) :=
  modifies_of hw h (by simp) (by simp) (by simp [State.regs])

theorem opRor_modifies (hw : s.wf = true) (h : exec i s = .next (opRor o s)) :
    let M := modifiedByte o s
    Modifies i o s ((M >>> 1) ||| (BitVec.ofNat 8 s.p.c.toNat <<< 7))
      (s.a, s.x, s.y, s.s, s.pc,
        flagsNZ ((M >>> 1) ||| (BitVec.ofNat 8 s.p.c.toNat <<< 7)) { s.p with c := M.getLsbD 0 }) :=
  modifies_of hw h (by simp) (by simp) (by simp [State.regs])

theorem opSlo_modifies (hw : s.wf = true) (h : exec i s = .next (opSlo o s)) :
    let M := modifiedByte o s
    Modifies i o s (M <<< 1)
      (s.a ||| (M <<< 1), s.x, s.y, s.s, s.pc, flagsNZ (s.a ||| (M <<< 1)) { s.p with c := M.getLsbD 7 }) :=
  modifies_of hw h (by simp) (by simp) (by simp [State.regs])

theorem opSre_modifies (hw : s.wf = true) (h : exec i s = .next (opSre o s)) :
    let M := modifiedByte o s
    Modifies i o s (M >>> 1)
      (s.a ^^^ (M >>> 1), s.x, s.y, s.s, s.pc, flagsNZ (s.a ^^^ (M >>> 1)) { s.p with c := M.getLsbD 0 }) :=
  modifies_of hw h (by simp) (by simp) (by simp [State.regs])

theorem opRla_modifies (hw : s.wf = true) (h : exec i s = .next (opRla o s)) :
    let M := modifiedByte o s
    Modifies i o s ((M <<< 1) ||| BitVec.ofNat 8 s.p.c.toNat)
      (s.a &&& ((M <<< 1) ||| BitVec.ofNat 8 s.p.c.toNat), s.x, s.y, s.s, s.pc,
        flagsNZ (s.a &&& ((M <<< 1) ||| BitVec.ofNat 8 s.p.c.toNat)) { s.p with c := M.getLsbD 7 }) :=
  modifies_of hw h (by simp) (by simp) (by simp [State.regs])

theorem opRra_modifies (hw : s.wf = true) (h : exec i s = .next (opRra o s)) :
    let M := modifiedByte o s
    Modifies i o s ((M >>> 1) ||| (BitVec.ofNat 8 s.p.c.toNat <<< 7))
      ((adder s.a ((M >>> 1) ||| (BitVec.ofNat 8 s.p.c.toNat <<< 7)) (M.getLsbD 0) s.p).1, s.x, s.y, s.s, s.pc,
        (adder s.a ((M >>> 1) ||| (BitVec.ofNat 8 s.p.c.toNat <<< 7)) (M.getLsbD 0) s.p).2) := by
  refine modifies_of hw h (by simp) (by simp) ?_
  simp only [State.regs, State.addA_eq, Flags.afterShift_eq, rorByte_eq, modifyState_p, State.setP_p]
  have e := adder_flags s.a ((modifiedByte o s >>> 1) ||| (BitVec.ofNat 8 s.p.c.toNat <<< 7))
    ((modifiedByte o s).getLsbD 0) s.p
    (flagsNZ ((modifiedByte o s >>> 1) ||| (BitVec.ofNat 8 s.p.c.toNat <<< 7))
      { s.p with c := (modifiedByte o s).getLsbD 0 }) rfl rfl
  simp [flagsNZ] at e ⊢
  simp [e]

end Sys2Proof.Machine
end

