-- ==== Sys2Proof/Laws/PerInstr.lean ====
section
/-! SUPPORT. Laws made per instruction: the bytes of every instruction are well-formed, with the length its row of Table
30-B gives (rule R100). -/

namespace Sys2Proof.Laws.LengthLaw

/-- The encoding has exactly the bytes of the opcode's row. -/
def Statement (i : Instr) : Prop := bytesWellFormed (encode i) = true

theorem brk (pad : Byte) : Statement (.brk pad) := rfl
theorem oraIzx (q : Byte) : Statement (.oraIzx q) := rfl
theorem jam02 : Statement (.jam02) := rfl
theorem sloIzx (q : Byte) : Statement (.sloIzx q) := rfl
theorem nopZp04 (a : Byte) : Statement (.nopZp04 a) := rfl
theorem oraZp (a : Byte) : Statement (.oraZp a) := rfl
theorem aslZp (a : Byte) : Statement (.aslZp a) := rfl
theorem sloZp (a : Byte) : Statement (.sloZp a) := rfl
theorem php : Statement (.php) := rfl
theorem oraImm (m : Byte) : Statement (.oraImm m) := rfl
theorem aslAcc : Statement (.aslAcc) := rfl
theorem ancImm0B (m : Byte) : Statement (.ancImm0B m) := rfl
theorem nopAbs (w : Word) : Statement (.nopAbs w) := rfl
theorem oraAbs (w : Word) : Statement (.oraAbs w) := rfl
theorem aslAbs (w : Word) : Statement (.aslAbs w) := rfl
theorem sloAbs (w : Word) : Statement (.sloAbs w) := rfl
theorem bpl (off : Byte) : Statement (.bpl off) := rfl
theorem oraIzy (q : Byte) : Statement (.oraIzy q) := rfl
theorem jam12 : Statement (.jam12) := rfl
theorem sloIzy (q : Byte) : Statement (.sloIzy q) := rfl
theorem nopZpx14 (a : Byte) : Statement (.nopZpx14 a) := rfl
theorem oraZpx (a : Byte) : Statement (.oraZpx a) := rfl
theorem aslZpx (a : Byte) : Statement (.aslZpx a) := rfl
theorem sloZpx (a : Byte) : Statement (.sloZpx a) := rfl
theorem clc : Statement (.clc) := rfl
theorem oraAbsy (w : Word) : Statement (.oraAbsy w) := rfl
theorem nopImp1A : Statement (.nopImp1A) := rfl
theorem sloAbsy (w : Word) : Statement (.sloAbsy w) := rfl
theorem nopAbsx1C (w : Word) : Statement (.nopAbsx1C w) := rfl
theorem oraAbsx (w : Word) : Statement (.oraAbsx w) := rfl
theorem aslAbsx (w : Word) : Statement (.aslAbsx w) := rfl
theorem sloAbsx (w : Word) : Statement (.sloAbsx w) := rfl
theorem jsr (w : Word) : Statement (.jsr w) := rfl
theorem andIzx (q : Byte) : Statement (.andIzx q) := rfl
theorem jam22 : Statement (.jam22) := rfl
theorem rlaIzx (q : Byte) : Statement (.rlaIzx q) := rfl
theorem bitZp (a : Byte) : Statement (.bitZp a) := rfl
theorem andZp (a : Byte) : Statement (.andZp a) := rfl
theorem rolZp (a : Byte) : Statement (.rolZp a) := rfl
theorem rlaZp (a : Byte) : Statement (.rlaZp a) := rfl
theorem plp : Statement (.plp) := rfl
theorem andImm (m : Byte) : Statement (.andImm m) := rfl
theorem rolAcc : Statement (.rolAcc) := rfl
theorem ancImm2B (m : Byte) : Statement (.ancImm2B m) := rfl
theorem bitAbs (w : Word) : Statement (.bitAbs w) := rfl
theorem andAbs (w : Word) : Statement (.andAbs w) := rfl
theorem rolAbs (w : Word) : Statement (.rolAbs w) := rfl
theorem rlaAbs (w : Word) : Statement (.rlaAbs w) := rfl
theorem bmi (off : Byte) : Statement (.bmi off) := rfl
theorem andIzy (q : Byte) : Statement (.andIzy q) := rfl
theorem jam32 : Statement (.jam32) := rfl
theorem rlaIzy (q : Byte) : Statement (.rlaIzy q) := rfl
theorem nopZpx34 (a : Byte) : Statement (.nopZpx34 a) := rfl
theorem andZpx (a : Byte) : Statement (.andZpx a) := rfl
theorem rolZpx (a : Byte) : Statement (.rolZpx a) := rfl
theorem rlaZpx (a : Byte) : Statement (.rlaZpx a) := rfl
theorem sec : Statement (.sec) := rfl
theorem andAbsy (w : Word) : Statement (.andAbsy w) := rfl
theorem nopImp3A : Statement (.nopImp3A) := rfl
theorem rlaAbsy (w : Word) : Statement (.rlaAbsy w) := rfl
theorem nopAbsx3C (w : Word) : Statement (.nopAbsx3C w) := rfl
theorem andAbsx (w : Word) : Statement (.andAbsx w) := rfl
theorem rolAbsx (w : Word) : Statement (.rolAbsx w) := rfl
theorem rlaAbsx (w : Word) : Statement (.rlaAbsx w) := rfl
theorem rti : Statement (.rti) := rfl
theorem eorIzx (q : Byte) : Statement (.eorIzx q) := rfl
theorem jam42 : Statement (.jam42) := rfl
theorem sreIzx (q : Byte) : Statement (.sreIzx q) := rfl
theorem nopZp44 (a : Byte) : Statement (.nopZp44 a) := rfl
theorem eorZp (a : Byte) : Statement (.eorZp a) := rfl
theorem lsrZp (a : Byte) : Statement (.lsrZp a) := rfl
theorem sreZp (a : Byte) : Statement (.sreZp a) := rfl
theorem pha : Statement (.pha) := rfl
theorem eorImm (m : Byte) : Statement (.eorImm m) := rfl
theorem lsrAcc : Statement (.lsrAcc) := rfl
theorem alrImm (m : Byte) : Statement (.alrImm m) := rfl
theorem jmpAbs (w : Word) : Statement (.jmpAbs w) := rfl
theorem eorAbs (w : Word) : Statement (.eorAbs w) := rfl
theorem lsrAbs (w : Word) : Statement (.lsrAbs w) := rfl
theorem sreAbs (w : Word) : Statement (.sreAbs w) := rfl
theorem bvc (off : Byte) : Statement (.bvc off) := rfl
theorem eorIzy (q : Byte) : Statement (.eorIzy q) := rfl
theorem jam52 : Statement (.jam52) := rfl
theorem sreIzy (q : Byte) : Statement (.sreIzy q) := rfl
theorem nopZpx54 (a : Byte) : Statement (.nopZpx54 a) := rfl
theorem eorZpx (a : Byte) : Statement (.eorZpx a) := rfl
theorem lsrZpx (a : Byte) : Statement (.lsrZpx a) := rfl
theorem sreZpx (a : Byte) : Statement (.sreZpx a) := rfl
theorem cli : Statement (.cli) := rfl
theorem eorAbsy (w : Word) : Statement (.eorAbsy w) := rfl
theorem nopImp5A : Statement (.nopImp5A) := rfl
theorem sreAbsy (w : Word) : Statement (.sreAbsy w) := rfl
theorem nopAbsx5C (w : Word) : Statement (.nopAbsx5C w) := rfl
theorem eorAbsx (w : Word) : Statement (.eorAbsx w) := rfl
theorem lsrAbsx (w : Word) : Statement (.lsrAbsx w) := rfl
theorem sreAbsx (w : Word) : Statement (.sreAbsx w) := rfl
theorem rts : Statement (.rts) := rfl
theorem adcIzx (q : Byte) : Statement (.adcIzx q) := rfl
theorem jam62 : Statement (.jam62) := rfl
theorem rraIzx (q : Byte) : Statement (.rraIzx q) := rfl
theorem nopZp64 (a : Byte) : Statement (.nopZp64 a) := rfl
theorem adcZp (a : Byte) : Statement (.adcZp a) := rfl
theorem rorZp (a : Byte) : Statement (.rorZp a) := rfl
theorem rraZp (a : Byte) : Statement (.rraZp a) := rfl
theorem pla : Statement (.pla) := rfl
theorem adcImm (m : Byte) : Statement (.adcImm m) := rfl
theorem rorAcc : Statement (.rorAcc) := rfl
theorem arrImm (m : Byte) : Statement (.arrImm m) := rfl
theorem jmpInd (w : Word) : Statement (.jmpInd w) := rfl
theorem adcAbs (w : Word) : Statement (.adcAbs w) := rfl
theorem rorAbs (w : Word) : Statement (.rorAbs w) := rfl
theorem rraAbs (w : Word) : Statement (.rraAbs w) := rfl
theorem bvs (off : Byte) : Statement (.bvs off) := rfl
theorem adcIzy (q : Byte) : Statement (.adcIzy q) := rfl
theorem jam72 : Statement (.jam72) := rfl
theorem rraIzy (q : Byte) : Statement (.rraIzy q) := rfl
theorem nopZpx74 (a : Byte) : Statement (.nopZpx74 a) := rfl
theorem adcZpx (a : Byte) : Statement (.adcZpx a) := rfl
theorem rorZpx (a : Byte) : Statement (.rorZpx a) := rfl
theorem rraZpx (a : Byte) : Statement (.rraZpx a) := rfl
theorem sei : Statement (.sei) := rfl
theorem adcAbsy (w : Word) : Statement (.adcAbsy w) := rfl
theorem nopImp7A : Statement (.nopImp7A) := rfl
theorem rraAbsy (w : Word) : Statement (.rraAbsy w) := rfl
theorem nopAbsx7C (w : Word) : Statement (.nopAbsx7C w) := rfl
theorem adcAbsx (w : Word) : Statement (.adcAbsx w) := rfl
theorem rorAbsx (w : Word) : Statement (.rorAbsx w) := rfl
theorem rraAbsx (w : Word) : Statement (.rraAbsx w) := rfl
theorem nopImm80 (m : Byte) : Statement (.nopImm80 m) := rfl
theorem staIzx (q : Byte) : Statement (.staIzx q) := rfl
theorem nopImm82 (m : Byte) : Statement (.nopImm82 m) := rfl
theorem saxIzx (q : Byte) : Statement (.saxIzx q) := rfl
theorem styZp (a : Byte) : Statement (.styZp a) := rfl
theorem staZp (a : Byte) : Statement (.staZp a) := rfl
theorem stxZp (a : Byte) : Statement (.stxZp a) := rfl
theorem saxZp (a : Byte) : Statement (.saxZp a) := rfl
theorem dey : Statement (.dey) := rfl
theorem nopImm89 (m : Byte) : Statement (.nopImm89 m) := rfl
theorem txa : Statement (.txa) := rfl
theorem xaaImm (m : Byte) : Statement (.xaaImm m) := rfl
theorem styAbs (w : Word) : Statement (.styAbs w) := rfl
theorem staAbs (w : Word) : Statement (.staAbs w) := rfl
theorem stxAbs (w : Word) : Statement (.stxAbs w) := rfl
theorem saxAbs (w : Word) : Statement (.saxAbs w) := rfl
theorem bcc (off : Byte) : Statement (.bcc off) := rfl
theorem staIzy (q : Byte) : Statement (.staIzy q) := rfl
theorem jam92 : Statement (.jam92) := rfl
theorem ahxIzy (q : Byte) : Statement (.ahxIzy q) := rfl
theorem styZpx (a : Byte) : Statement (.styZpx a) := rfl
theorem staZpx (a : Byte) : Statement (.staZpx a) := rfl
theorem stxZpy (a : Byte) : Statement (.stxZpy a) := rfl
theorem saxZpy (a : Byte) : Statement (.saxZpy a) := rfl
theorem tya : Statement (.tya) := rfl
theorem staAbsy (w : Word) : Statement (.staAbsy w) := rfl
theorem txs : Statement (.txs) := rfl
theorem tasAbsy (w : Word) : Statement (.tasAbsy w) := rfl
theorem shyAbsx (w : Word) : Statement (.shyAbsx w) := rfl
theorem staAbsx (w : Word) : Statement (.staAbsx w) := rfl
theorem shxAbsy (w : Word) : Statement (.shxAbsy w) := rfl
theorem ahxAbsy (w : Word) : Statement (.ahxAbsy w) := rfl
theorem ldyImm (m : Byte) : Statement (.ldyImm m) := rfl
theorem ldaIzx (q : Byte) : Statement (.ldaIzx q) := rfl
theorem ldxImm (m : Byte) : Statement (.ldxImm m) := rfl
theorem laxIzx (q : Byte) : Statement (.laxIzx q) := rfl
theorem ldyZp (a : Byte) : Statement (.ldyZp a) := rfl
theorem ldaZp (a : Byte) : Statement (.ldaZp a) := rfl
theorem ldxZp (a : Byte) : Statement (.ldxZp a) := rfl
theorem laxZp (a : Byte) : Statement (.laxZp a) := rfl
theorem tay : Statement (.tay) := rfl
theorem ldaImm (m : Byte) : Statement (.ldaImm m) := rfl
theorem tax : Statement (.tax) := rfl
theorem laxImm (m : Byte) : Statement (.laxImm m) := rfl
theorem ldyAbs (w : Word) : Statement (.ldyAbs w) := rfl
theorem ldaAbs (w : Word) : Statement (.ldaAbs w) := rfl
theorem ldxAbs (w : Word) : Statement (.ldxAbs w) := rfl
theorem laxAbs (w : Word) : Statement (.laxAbs w) := rfl
theorem bcs (off : Byte) : Statement (.bcs off) := rfl
theorem ldaIzy (q : Byte) : Statement (.ldaIzy q) := rfl
theorem jamB2 : Statement (.jamB2) := rfl
theorem laxIzy (q : Byte) : Statement (.laxIzy q) := rfl
theorem ldyZpx (a : Byte) : Statement (.ldyZpx a) := rfl
theorem ldaZpx (a : Byte) : Statement (.ldaZpx a) := rfl
theorem ldxZpy (a : Byte) : Statement (.ldxZpy a) := rfl
theorem laxZpy (a : Byte) : Statement (.laxZpy a) := rfl
theorem clv : Statement (.clv) := rfl
theorem ldaAbsy (w : Word) : Statement (.ldaAbsy w) := rfl
theorem tsx : Statement (.tsx) := rfl
theorem lasAbsy (w : Word) : Statement (.lasAbsy w) := rfl
theorem ldyAbsx (w : Word) : Statement (.ldyAbsx w) := rfl
theorem ldaAbsx (w : Word) : Statement (.ldaAbsx w) := rfl
theorem ldxAbsy (w : Word) : Statement (.ldxAbsy w) := rfl
theorem laxAbsy (w : Word) : Statement (.laxAbsy w) := rfl
theorem cpyImm (m : Byte) : Statement (.cpyImm m) := rfl
theorem cmpIzx (q : Byte) : Statement (.cmpIzx q) := rfl
theorem nopImmC2 (m : Byte) : Statement (.nopImmC2 m) := rfl
theorem dcpIzx (q : Byte) : Statement (.dcpIzx q) := rfl
theorem cpyZp (a : Byte) : Statement (.cpyZp a) := rfl
theorem cmpZp (a : Byte) : Statement (.cmpZp a) := rfl
theorem decZp (a : Byte) : Statement (.decZp a) := rfl
theorem dcpZp (a : Byte) : Statement (.dcpZp a) := rfl
theorem iny : Statement (.iny) := rfl
theorem cmpImm (m : Byte) : Statement (.cmpImm m) := rfl
theorem dex : Statement (.dex) := rfl
theorem axsImm (m : Byte) : Statement (.axsImm m) := rfl
theorem cpyAbs (w : Word) : Statement (.cpyAbs w) := rfl
theorem cmpAbs (w : Word) : Statement (.cmpAbs w) := rfl
theorem decAbs (w : Word) : Statement (.decAbs w) := rfl
theorem dcpAbs (w : Word) : Statement (.dcpAbs w) := rfl
theorem bne (off : Byte) : Statement (.bne off) := rfl
theorem cmpIzy (q : Byte) : Statement (.cmpIzy q) := rfl
theorem jamD2 : Statement (.jamD2) := rfl
theorem dcpIzy (q : Byte) : Statement (.dcpIzy q) := rfl
theorem nopZpxD4 (a : Byte) : Statement (.nopZpxD4 a) := rfl
theorem cmpZpx (a : Byte) : Statement (.cmpZpx a) := rfl
theorem decZpx (a : Byte) : Statement (.decZpx a) := rfl
theorem dcpZpx (a : Byte) : Statement (.dcpZpx a) := rfl
theorem cld : Statement (.cld) := rfl
theorem cmpAbsy (w : Word) : Statement (.cmpAbsy w) := rfl
theorem nopImpDA : Statement (.nopImpDA) := rfl
theorem dcpAbsy (w : Word) : Statement (.dcpAbsy w) := rfl
theorem nopAbsxDC (w : Word) : Statement (.nopAbsxDC w) := rfl
theorem cmpAbsx (w : Word) : Statement (.cmpAbsx w) := rfl
theorem decAbsx (w : Word) : Statement (.decAbsx w) := rfl
theorem dcpAbsx (w : Word) : Statement (.dcpAbsx w) := rfl
theorem cpxImm (m : Byte) : Statement (.cpxImm m) := rfl
theorem sbcIzx (q : Byte) : Statement (.sbcIzx q) := rfl
theorem nopImmE2 (m : Byte) : Statement (.nopImmE2 m) := rfl
theorem iscIzx (q : Byte) : Statement (.iscIzx q) := rfl
theorem cpxZp (a : Byte) : Statement (.cpxZp a) := rfl
theorem sbcZp (a : Byte) : Statement (.sbcZp a) := rfl
theorem incZp (a : Byte) : Statement (.incZp a) := rfl
theorem iscZp (a : Byte) : Statement (.iscZp a) := rfl
theorem inx : Statement (.inx) := rfl
theorem sbcImm (m : Byte) : Statement (.sbcImm m) := rfl
theorem nop : Statement (.nop) := rfl
theorem sbcImmEB (m : Byte) : Statement (.sbcImmEB m) := rfl
theorem cpxAbs (w : Word) : Statement (.cpxAbs w) := rfl
theorem sbcAbs (w : Word) : Statement (.sbcAbs w) := rfl
theorem incAbs (w : Word) : Statement (.incAbs w) := rfl
theorem iscAbs (w : Word) : Statement (.iscAbs w) := rfl
theorem beq (off : Byte) : Statement (.beq off) := rfl
theorem sbcIzy (q : Byte) : Statement (.sbcIzy q) := rfl
theorem jamF2 : Statement (.jamF2) := rfl
theorem iscIzy (q : Byte) : Statement (.iscIzy q) := rfl
theorem nopZpxF4 (a : Byte) : Statement (.nopZpxF4 a) := rfl
theorem sbcZpx (a : Byte) : Statement (.sbcZpx a) := rfl
theorem incZpx (a : Byte) : Statement (.incZpx a) := rfl
theorem iscZpx (a : Byte) : Statement (.iscZpx a) := rfl
theorem sed : Statement (.sed) := rfl
theorem sbcAbsy (w : Word) : Statement (.sbcAbsy w) := rfl
theorem nopImpFA : Statement (.nopImpFA) := rfl
theorem iscAbsy (w : Word) : Statement (.iscAbsy w) := rfl
theorem nopAbsxFC (w : Word) : Statement (.nopAbsxFC w) := rfl
theorem sbcAbsx (w : Word) : Statement (.sbcAbsx w) := rfl
theorem incAbsx (w : Word) : Statement (.incAbsx w) := rfl
theorem iscAbsx (w : Word) : Statement (.iscAbsx w) := rfl

end Sys2Proof.Laws.LengthLaw
end

