-- ==== Sys2Proof/Laws/Stack.lean ====
section
/-! SUPPORT. The stack: where pushes and pulls go, that pushed bytes stay where they were put, and the frame of a run of
pushes (rules R70, R194). -/

namespace Sys2Proof.Machine

theorem stackAddr_range (v : Byte) : 0x100 ≤ (stackAddr v).toNat ∧ (stackAddr v).toNat < 0x200 := by
  have := v.isLt
  rw [stackAddr, mkWord_toNat]
  simp only [BitVec.toNat_ofNat]
  omega

theorem stackAddr_toNat (v : Byte) : (stackAddr v).toNat = 0x100 + v.toNat := by
  rw [stackAddr, mkWord_toNat]
  rfl

theorem memByte_stack (s : State) (v : Byte) : memByte s (stackAddr v) = some (s.ram.read (stackAddr v).toNat) := by
  have := stackAddr_range v
  simp only [memByte]
  rw [if_pos (by omega), Nat.mod_eq_of_lt (by omega)]

theorem memRead_stack (s : State) (v : Byte) : (memRead (stackAddr v) s).1 = s.ram.read (stackAddr v).toNat :=
  memRead_value (memByte_stack s v)

theorem pull_value (s : State) : (pull s).1 = stackByte s 1#8 := memRead_stack (s.setS _) _

theorem pullWord_value (s : State) : (pullWord s).1 = mkWord (stackByte s 2#8) (stackByte s 1#8) := by
  have h : stackByte (pull s).2 1#8 = stackByte s 2#8 := by
    simp only [stackByte, (pull_quiet s).ram, pull_s, BitVec.add_assoc]
    rfl
  simp only [pullWord, pull_value, h]

theorem pullWord_quiet (s : State) : Quiet 2 s (pullWord s).2 := (pull_quiet s).trans (pull_quiet _)

@[simp] theorem pullWord_s (s : State) : (pullWord s).2.s = s.s + 2#8 := by
  simp only [pullWord, pull_s, BitVec.add_assoc]
  rfl

/-- Different stack pointers designate different bytes. -/
theorem sameCell_stack {u v : Byte} (h : u ≠ v) : sameCell (stackAddr u) (stackAddr v) = false := by
  have hu := stackAddr_toNat u
  have hv := stackAddr_toNat v
  have h1 := u.isLt
  have h2 := v.isLt
  have hne : u.toNat ≠ v.toNat := fun e => h (BitVec.eq_of_toNat_eq e)
  simp only [sameCell, Bool.or_eq_false_iff, beq_eq_false_iff_ne, Bool.and_eq_false_iff, decide_eq_false_iff_not]
  refine ⟨fun e => hne ?_, .inr ?_⟩
  · have := congrArg BitVec.toNat e
    omega
  · omega

/-! ## Runs of pushes -/

theorem StacksBytes.ofQuiet {n : Nat} {s t : State} (h : Quiet n s t) (hs : t.s = s.s) : StacksBytes [] n s t :=
  ⟨h.1.1, by simp [hs], fun k => k.elim0, fun a _ => h.memByte a, by rw [h.chips], h.1.2.2.1.2.1, h.1.2.2.1.2.2.1,
    h.1.2.2.1.2.2.2, h.1.2.2.2⟩

theorem StacksBytes.thenQuiet {l : List Byte} {m n : Nat} {s t u : State} (h : StacksBytes l m s t) (k : Quiet n t u)
    (hs : u.s = t.s) : StacksBytes l (m + n) s u := by
  obtain ⟨h1, h2, h3, h4, h5, h6, h7, h8, h9⟩ := h
  exact ⟨h1.trans k.1.1, hs.trans h2, fun j => (k.memByte _).trans (h3 j), fun a q => (k.memByte a).trans (h4 a q),
    by rw [k.chips, h5], h6.trans k.1.2.2.1.2.1, h7.trans k.1.2.2.1.2.2.1, k.1.2.2.1.2.2.2.trans h8,
    cycles_trans h9 k.1.2.2.2⟩

theorem StacksBytes.afterQuiet {l : List Byte} {m n : Nat} {s t u : State} (k : Quiet m s t) (hs : t.s = s.s)
    (h : StacksBytes l n t u) : StacksBytes l (m + n) s u := by
  obtain ⟨h1, h2, h3, h4, h5, h6, h7, h8, h9⟩ := h
  rw [hs] at h2 h3 h4
  exact ⟨k.1.1.trans h1, h2, h3, fun a q => (h4 a q).trans (k.memByte a), by rw [h5, k.chips],
    k.1.2.2.1.2.1.trans h6, k.1.2.2.1.2.2.1.trans h7, h8.trans k.1.2.2.1.2.2.2, cycles_trans k.1.2.2.2 h9⟩

/-- Registers other than S do not matter to the frame. -/
theorem StacksBytes.ofDevices {l : List Byte} {n : Nat} {s t t' : State} (h : StacksBytes l n s t)
    (e : t'.devices = t.devices) (hs : t'.s = t.s) : StacksBytes l n s t' :=
  h.thenQuiet ((Quiet.refl t).ofDevices e) hs

/-- One push more. -/
theorem StacksBytes.push {l : List Byte} {n : Nat} {s t : State} (d : Byte) (hl : l.length < 0x100) (hw : t.wf = true)
    (h : StacksBytes l n s t) : StacksBytes (l ++ [d]) (n + 1) s (push d t) := by
  obtain ⟨h1, h2, h3, h4, h5, h6, h7, h8, h9⟩ := h
  have st := ((memWrite_stores (stackAddr t.s) d hw).ofDevices (t' := Machine.push d t) rfl).1
  obtain ⟨p1, ⟨a1, a2, -, -, a5, a6⟩, p3, p4⟩ := st
  have hr := stackAddr_range t.s
  have hlen : (l ++ [d]).length = l.length + 1 := by simp
  refine ⟨h1.trans p1, ?_, fun j => ?_, fun a q => ?_, ?_, h6.trans p3.2.1, h7.trans p3.2.2.1, p3.2.2.2.trans h8,
    cycles_trans h9 p4⟩
  · rw [push_s, h2, hlen]
    bv_omega
  · by_cases hj : j.val < l.length
    · have hne : s.s - BitVec.ofNat 8 j.val ≠ t.s := by
        rw [h2]
        intro e
        have hj2 : (BitVec.ofNat 8 j.val).toNat = (BitVec.ofNat 8 l.length).toNat := by
          have := congrArg BitVec.toNat e
          bv_omega
        simp only [BitVec.toNat_ofNat] at hj2
        omega
      rw [a1 (by omega) _ (sameCell_stack hne), h3 ⟨j.val, hj⟩]
      simp [List.getElem_append_left hj]
    · have hj2 : j.val = l.length := by
        have := j.isLt
        omega
      have e : s.s - BitVec.ofNat 8 j.val = t.s := by rw [h2, hj2]
      rw [e, a2 (by omega) _ (sameCell_self _)]
      simp [hj2]
  · have q1 : sameCell a (stackAddr t.s) = false := by
      have := q ⟨l.length, by omega⟩
      rwa [h2]
    rw [a1 (by omega) a q1]
    exact h4 a fun k => q ⟨k.val, by have := k.isLt; omega⟩
  · obtain ⟨c1, c2, c3, c4⟩ := a6 (by omega)
    rw [← h5]
    simp only [State.chips, List.tail_cons, p1.2.2.2.2.2.1, a5 (by omega), c1, c2, c3, c4]

theorem push_wf {s : State} (d : Byte) (h : s.wf = true) : (push d s).wf = true := ((BusRun.refl s).push d).wf h

/-- The two pushes of PC. -/
theorem pushPc_stacks {s : State} (h : s.wf = true) : StacksBytes [hi s.pc, lo s.pc] 2 s (pushPc s) :=
  ((StacksBytes.ofQuiet (.refl s) rfl).push (hi s.pc) (by simp) h).push (lo s.pc) (by simp) (push_wf _ h)

theorem pushPc_core (s : State) : (pushPc s).regs = (s.a, s.x, s.y, s.s - 2#8, s.pc, s.p) := by
  simp only [pushPc, State.regs, push_a, push_x, push_y, push_s, push_pc, push_p, Prod.mk.injEq, true_and, and_true]
  bv_omega

/-! ## Vectors and entries -/

theorem loadVector_quiet (v : Word) (s : State) : Quiet 2 s (loadVector v s) :=
  ((memRead_quiet _ _).trans (memRead_quiet _ _)).ofDevices rfl

theorem loadVector_pc {v w : Word} {s : State} (h : VectorShows s v w) : (loadVector v s).pc = w := by
  show mkWord _ _ = _
  rw [memRead_value h.1, memRead_value (((memRead_quiet _ _).memByte _).trans h.2), mkWord_hi_lo]

theorem loadVector_regs (v : Word) (s : State) :
    (loadVector v s).regs = (s.a, s.x, s.y, s.s, (loadVector v s).pc, s.p) := by
  simp [State.regs, loadVector]

/-- Whether an NMI is pending does not matter to the frame of pushes. -/
theorem StacksBytes.setNmi {l : List Byte} {n : Nat} {s t : State} (h : StacksBytes l n s t) (b : Bool) :
    StacksBytes l n s { t with nmiPending := b } := h

/-- A push leaves every byte outside the RAM range as it was. -/
theorem StacksBytes.memByte_high {l : List Byte} {n : Nat} {s t : State} (h : StacksBytes l n s t) {a : Word}
    (ha : 0x2000 ≤ a.toNat) : memByte t a = memByte s a := by
  refine h.2.2.2.1 a fun k => ?_
  have := stackAddr_range (s.s - BitVec.ofNat 8 k.val)
  simp only [sameCell, Bool.or_eq_false_iff, beq_eq_false_iff_ne, Bool.and_eq_false_iff, decide_eq_false_iff_not]
  refine ⟨fun e => ?_, .inl (.inl (by omega))⟩
  rw [e] at ha
  omega

/-- Cycles 3 to 7 of an entry, from the state `s` before its pushes: what is saved, and where PC goes (rules R268,
R330, R331). `b'` is the pending NMI left after the vector choice. -/
theorem enterVector_spec {s : State} (hw : s.wf = true) (b b' : Bool) {vec : Word} (hv : 0x2000 ≤ vec.toNat)
    (hv2 : vec.toNat < 0xFFFF) :
    let t := enterVector b vec { pushPc s with nmiPending := b' }
    t.a = s.a ∧ t.x = s.x ∧ t.y = s.y ∧ t.p = { s.p with i := true } ∧
      StacksBytes [hi s.pc, lo s.pc, s.p.pack b] 5 s t ∧ ∀ w, VectorShows s vec w → t.pc = w := by
  have hc := pushPc_core s
  simp only [State.regs, Prod.mk.injEq] at hc
  obtain ⟨c1, c2, c3, c4, c5, c6⟩ := hc
  generalize hu : ({ pushPc s with nmiPending := b' } : State) = u
  have hur : u.a = s.a ∧ u.x = s.x ∧ u.y = s.y ∧ u.p = s.p := by
    subst hu
    exact ⟨c1, c2, c3, c6⟩
  have huw : u.wf = true := by
    subst hu
    exact ((BusRun.refl s).pushPc).wf hw
  have h2 : StacksBytes [hi s.pc, lo s.pc] 2 s u := by
    subst hu
    exact (pushPc_stacks hw).setNmi b'
  have h3 : StacksBytes [hi s.pc, lo s.pc, u.p.pack b] 3 s (push (u.p.pack b) u) :=
    h2.push (u.p.pack b) (by simp) huw
  intro t
  have ht : t = loadVector vec ((push (u.p.pack b) u).setP { (push (u.p.pack b) u).p with i := true }) := rfl
  have hr := loadVector_regs vec ((push (u.p.pack b) u).setP { (push (u.p.pack b) u).p with i := true })
  rw [← ht] at hr
  simp only [State.regs, Prod.mk.injEq] at hr
  have h4 : StacksBytes [hi s.pc, lo s.pc, u.p.pack b] 5 s t :=
    (h3.ofDevices (t' := (push (u.p.pack b) u).setP { (push (u.p.pack b) u).p with i := true }) rfl rfl).thenQuiet
      (loadVector_quiet vec _) hr.2.2.2.1
  refine ⟨hr.1.trans ?_, hr.2.1.trans ?_, hr.2.2.1.trans ?_, hr.2.2.2.2.2.trans ?_, ?_, fun w hvw => ?_⟩
  · simp [hur]
  · simp [hur]
  · simp [hur]
  · simp [hur]
  · rw [← hur.2.2.2]
    exact h4
  · rw [ht]
    refine loadVector_pc ⟨(h3.memByte_high hv).trans hvw.1, (h3.memByte_high ?_).trans hvw.2⟩
    bv_omega

end Sys2Proof.Machine
end

