-- ==== Sys2Proof/Tests/Slice0.lean ====
section
/-! SUPPORT. Tests: every opcode's decoding, written out from Table 30-B; ill-formed byte sequences; single steps whose
expected results are the spec's own vectors (95_test_vectors.md section 2, the id is in each docstring); device accesses
worked by hand from the rules; and for every obligation with hypotheses a concrete state and operands that meet them. -/

open Sys2Proof Sys2Proof.Machine

namespace Sys2Proof.Tests

-- One theorem after the other: many kernel evaluations waiting at once would each hold a thread's stack.
set_option Elab.async false

/-! ## Well-formedness: each check refuses an ill-formed sequence of bytes -/

theorem test_no_opcode_refused : bytesWellFormed [] = false ∧ decode [] = .error .noOpcode := by decide

theorem test_missing_operand_refused :
    bytesWellFormed [0xA9#8] = false ∧ decode [0xA9#8] = .error (.missingOperand 0xA9#8) := by decide

theorem test_missing_second_operand_refused :
    bytesWellFormed [0x4C#8, 0x34#8] = false ∧ decode [0x4C#8, 0x34#8] = .error (.missingOperand 0x4C#8) := by decide

theorem test_trailing_byte_refused : bytesWellFormed [0xEA#8, 0xEA#8] = false := by decide

theorem test_exact_bytes_accepted :
    bytesWellFormed [0xEA#8] = true ∧ bytesWellFormed [0xA9#8, 0x00#8] = true ∧
      bytesWellFormed [0x4C#8, 0x34#8, 0x12#8] = true := by decide

/-! ## Decoding: all 256 opcodes of Table 30-B, a theorem per high nibble; operand bytes 0x34, 0x12 (low first) -/

/-- Every pair of the list decodes as written, leaving no byte. -/
def decodes (l : List (List Byte × Instr)) : Prop := ∀ p ∈ l, decode p.1 = .ok (p.2, [])

theorem test_decode_0x :
    decodes
      [([0x00#8, 0x34#8], Instr.brk 0x34#8), ([0x01#8, 0x34#8], Instr.oraIzx 0x34#8), ([0x02#8], Instr.jam02),
       ([0x03#8, 0x34#8], Instr.sloIzx 0x34#8), ([0x04#8, 0x34#8], Instr.nopZp04 0x34#8),
       ([0x05#8, 0x34#8], Instr.oraZp 0x34#8), ([0x06#8, 0x34#8], Instr.aslZp 0x34#8),
       ([0x07#8, 0x34#8], Instr.sloZp 0x34#8), ([0x08#8], Instr.php), ([0x09#8, 0x34#8], Instr.oraImm 0x34#8),
       ([0x0A#8], Instr.aslAcc), ([0x0B#8, 0x34#8], Instr.ancImm0B 0x34#8),
       ([0x0C#8, 0x34#8, 0x12#8], Instr.nopAbs 0x1234#16), ([0x0D#8, 0x34#8, 0x12#8], Instr.oraAbs 0x1234#16),
       ([0x0E#8, 0x34#8, 0x12#8], Instr.aslAbs 0x1234#16), ([0x0F#8, 0x34#8, 0x12#8], Instr.sloAbs 0x1234#16)] := by
  unfold decodes; decide +kernel

theorem test_decode_1x :
    decodes
      [([0x10#8, 0x34#8], Instr.bpl 0x34#8), ([0x11#8, 0x34#8], Instr.oraIzy 0x34#8), ([0x12#8], Instr.jam12),
       ([0x13#8, 0x34#8], Instr.sloIzy 0x34#8), ([0x14#8, 0x34#8], Instr.nopZpx14 0x34#8),
       ([0x15#8, 0x34#8], Instr.oraZpx 0x34#8), ([0x16#8, 0x34#8], Instr.aslZpx 0x34#8),
       ([0x17#8, 0x34#8], Instr.sloZpx 0x34#8), ([0x18#8], Instr.clc),
       ([0x19#8, 0x34#8, 0x12#8], Instr.oraAbsy 0x1234#16), ([0x1A#8], Instr.nopImp1A),
       ([0x1B#8, 0x34#8, 0x12#8], Instr.sloAbsy 0x1234#16), ([0x1C#8, 0x34#8, 0x12#8], Instr.nopAbsx1C 0x1234#16),
       ([0x1D#8, 0x34#8, 0x12#8], Instr.oraAbsx 0x1234#16), ([0x1E#8, 0x34#8, 0x12#8], Instr.aslAbsx 0x1234#16),
       ([0x1F#8, 0x34#8, 0x12#8], Instr.sloAbsx 0x1234#16)] := by
  unfold decodes; decide +kernel

theorem test_decode_2x :
    decodes
      [([0x20#8, 0x34#8, 0x12#8], Instr.jsr 0x1234#16), ([0x21#8, 0x34#8], Instr.andIzx 0x34#8),
       ([0x22#8], Instr.jam22), ([0x23#8, 0x34#8], Instr.rlaIzx 0x34#8), ([0x24#8, 0x34#8], Instr.bitZp 0x34#8),
       ([0x25#8, 0x34#8], Instr.andZp 0x34#8), ([0x26#8, 0x34#8], Instr.rolZp 0x34#8),
       ([0x27#8, 0x34#8], Instr.rlaZp 0x34#8), ([0x28#8], Instr.plp), ([0x29#8, 0x34#8], Instr.andImm 0x34#8),
       ([0x2A#8], Instr.rolAcc), ([0x2B#8, 0x34#8], Instr.ancImm2B 0x34#8),
       ([0x2C#8, 0x34#8, 0x12#8], Instr.bitAbs 0x1234#16), ([0x2D#8, 0x34#8, 0x12#8], Instr.andAbs 0x1234#16),
       ([0x2E#8, 0x34#8, 0x12#8], Instr.rolAbs 0x1234#16), ([0x2F#8, 0x34#8, 0x12#8], Instr.rlaAbs 0x1234#16)] := by
  unfold decodes; decide +kernel

theorem test_decode_3x :
    decodes
      [([0x30#8, 0x34#8], Instr.bmi 0x34#8), ([0x31#8, 0x34#8], Instr.andIzy 0x34#8), ([0x32#8], Instr.jam32),
       ([0x33#8, 0x34#8], Instr.rlaIzy 0x34#8), ([0x34#8, 0x34#8], Instr.nopZpx34 0x34#8),
       ([0x35#8, 0x34#8], Instr.andZpx 0x34#8), ([0x36#8, 0x34#8], Instr.rolZpx 0x34#8),
       ([0x37#8, 0x34#8], Instr.rlaZpx 0x34#8), ([0x38#8], Instr.sec),
       ([0x39#8, 0x34#8, 0x12#8], Instr.andAbsy 0x1234#16), ([0x3A#8], Instr.nopImp3A),
       ([0x3B#8, 0x34#8, 0x12#8], Instr.rlaAbsy 0x1234#16), ([0x3C#8, 0x34#8, 0x12#8], Instr.nopAbsx3C 0x1234#16),
       ([0x3D#8, 0x34#8, 0x12#8], Instr.andAbsx 0x1234#16), ([0x3E#8, 0x34#8, 0x12#8], Instr.rolAbsx 0x1234#16),
       ([0x3F#8, 0x34#8, 0x12#8], Instr.rlaAbsx 0x1234#16)] := by
  unfold decodes; decide +kernel

theorem test_decode_4x :
    decodes
      [([0x40#8], Instr.rti), ([0x41#8, 0x34#8], Instr.eorIzx 0x34#8), ([0x42#8], Instr.jam42),
       ([0x43#8, 0x34#8], Instr.sreIzx 0x34#8), ([0x44#8, 0x34#8], Instr.nopZp44 0x34#8),
       ([0x45#8, 0x34#8], Instr.eorZp 0x34#8), ([0x46#8, 0x34#8], Instr.lsrZp 0x34#8),
       ([0x47#8, 0x34#8], Instr.sreZp 0x34#8), ([0x48#8], Instr.pha), ([0x49#8, 0x34#8], Instr.eorImm 0x34#8),
       ([0x4A#8], Instr.lsrAcc), ([0x4B#8, 0x34#8], Instr.alrImm 0x34#8),
       ([0x4C#8, 0x34#8, 0x12#8], Instr.jmpAbs 0x1234#16), ([0x4D#8, 0x34#8, 0x12#8], Instr.eorAbs 0x1234#16),
       ([0x4E#8, 0x34#8, 0x12#8], Instr.lsrAbs 0x1234#16), ([0x4F#8, 0x34#8, 0x12#8], Instr.sreAbs 0x1234#16)] := by
  unfold decodes; decide +kernel

theorem test_decode_5x :
    decodes
      [([0x50#8, 0x34#8], Instr.bvc 0x34#8), ([0x51#8, 0x34#8], Instr.eorIzy 0x34#8), ([0x52#8], Instr.jam52),
       ([0x53#8, 0x34#8], Instr.sreIzy 0x34#8), ([0x54#8, 0x34#8], Instr.nopZpx54 0x34#8),
       ([0x55#8, 0x34#8], Instr.eorZpx 0x34#8), ([0x56#8, 0x34#8], Instr.lsrZpx 0x34#8),
       ([0x57#8, 0x34#8], Instr.sreZpx 0x34#8), ([0x58#8], Instr.cli),
       ([0x59#8, 0x34#8, 0x12#8], Instr.eorAbsy 0x1234#16), ([0x5A#8], Instr.nopImp5A),
       ([0x5B#8, 0x34#8, 0x12#8], Instr.sreAbsy 0x1234#16), ([0x5C#8, 0x34#8, 0x12#8], Instr.nopAbsx5C 0x1234#16),
       ([0x5D#8, 0x34#8, 0x12#8], Instr.eorAbsx 0x1234#16), ([0x5E#8, 0x34#8, 0x12#8], Instr.lsrAbsx 0x1234#16),
       ([0x5F#8, 0x34#8, 0x12#8], Instr.sreAbsx 0x1234#16)] := by
  unfold decodes; decide +kernel

theorem test_decode_6x :
    decodes
      [([0x60#8], Instr.rts), ([0x61#8, 0x34#8], Instr.adcIzx 0x34#8), ([0x62#8], Instr.jam62),
       ([0x63#8, 0x34#8], Instr.rraIzx 0x34#8), ([0x64#8, 0x34#8], Instr.nopZp64 0x34#8),
       ([0x65#8, 0x34#8], Instr.adcZp 0x34#8), ([0x66#8, 0x34#8], Instr.rorZp 0x34#8),
       ([0x67#8, 0x34#8], Instr.rraZp 0x34#8), ([0x68#8], Instr.pla), ([0x69#8, 0x34#8], Instr.adcImm 0x34#8),
       ([0x6A#8], Instr.rorAcc), ([0x6B#8, 0x34#8], Instr.arrImm 0x34#8),
       ([0x6C#8, 0x34#8, 0x12#8], Instr.jmpInd 0x1234#16), ([0x6D#8, 0x34#8, 0x12#8], Instr.adcAbs 0x1234#16),
       ([0x6E#8, 0x34#8, 0x12#8], Instr.rorAbs 0x1234#16), ([0x6F#8, 0x34#8, 0x12#8], Instr.rraAbs 0x1234#16)] := by
  unfold decodes; decide +kernel

theorem test_decode_7x :
    decodes
      [([0x70#8, 0x34#8], Instr.bvs 0x34#8), ([0x71#8, 0x34#8], Instr.adcIzy 0x34#8), ([0x72#8], Instr.jam72),
       ([0x73#8, 0x34#8], Instr.rraIzy 0x34#8), ([0x74#8, 0x34#8], Instr.nopZpx74 0x34#8),
       ([0x75#8, 0x34#8], Instr.adcZpx 0x34#8), ([0x76#8, 0x34#8], Instr.rorZpx 0x34#8),
       ([0x77#8, 0x34#8], Instr.rraZpx 0x34#8), ([0x78#8], Instr.sei),
       ([0x79#8, 0x34#8, 0x12#8], Instr.adcAbsy 0x1234#16), ([0x7A#8], Instr.nopImp7A),
       ([0x7B#8, 0x34#8, 0x12#8], Instr.rraAbsy 0x1234#16), ([0x7C#8, 0x34#8, 0x12#8], Instr.nopAbsx7C 0x1234#16),
       ([0x7D#8, 0x34#8, 0x12#8], Instr.adcAbsx 0x1234#16), ([0x7E#8, 0x34#8, 0x12#8], Instr.rorAbsx 0x1234#16),
       ([0x7F#8, 0x34#8, 0x12#8], Instr.rraAbsx 0x1234#16)] := by
  unfold decodes; decide +kernel

theorem test_decode_8x :
    decodes
      [([0x80#8, 0x34#8], Instr.nopImm80 0x34#8), ([0x81#8, 0x34#8], Instr.staIzx 0x34#8),
       ([0x82#8, 0x34#8], Instr.nopImm82 0x34#8), ([0x83#8, 0x34#8], Instr.saxIzx 0x34#8),
       ([0x84#8, 0x34#8], Instr.styZp 0x34#8), ([0x85#8, 0x34#8], Instr.staZp 0x34#8),
       ([0x86#8, 0x34#8], Instr.stxZp 0x34#8), ([0x87#8, 0x34#8], Instr.saxZp 0x34#8), ([0x88#8], Instr.dey),
       ([0x89#8, 0x34#8], Instr.nopImm89 0x34#8), ([0x8A#8], Instr.txa), ([0x8B#8, 0x34#8], Instr.xaaImm 0x34#8),
       ([0x8C#8, 0x34#8, 0x12#8], Instr.styAbs 0x1234#16), ([0x8D#8, 0x34#8, 0x12#8], Instr.staAbs 0x1234#16),
       ([0x8E#8, 0x34#8, 0x12#8], Instr.stxAbs 0x1234#16), ([0x8F#8, 0x34#8, 0x12#8], Instr.saxAbs 0x1234#16)] := by
  unfold decodes; decide +kernel

theorem test_decode_9x :
    decodes
      [([0x90#8, 0x34#8], Instr.bcc 0x34#8), ([0x91#8, 0x34#8], Instr.staIzy 0x34#8), ([0x92#8], Instr.jam92),
       ([0x93#8, 0x34#8], Instr.ahxIzy 0x34#8), ([0x94#8, 0x34#8], Instr.styZpx 0x34#8),
       ([0x95#8, 0x34#8], Instr.staZpx 0x34#8), ([0x96#8, 0x34#8], Instr.stxZpy 0x34#8),
       ([0x97#8, 0x34#8], Instr.saxZpy 0x34#8), ([0x98#8], Instr.tya),
       ([0x99#8, 0x34#8, 0x12#8], Instr.staAbsy 0x1234#16), ([0x9A#8], Instr.txs),
       ([0x9B#8, 0x34#8, 0x12#8], Instr.tasAbsy 0x1234#16), ([0x9C#8, 0x34#8, 0x12#8], Instr.shyAbsx 0x1234#16),
       ([0x9D#8, 0x34#8, 0x12#8], Instr.staAbsx 0x1234#16), ([0x9E#8, 0x34#8, 0x12#8], Instr.shxAbsy 0x1234#16),
       ([0x9F#8, 0x34#8, 0x12#8], Instr.ahxAbsy 0x1234#16)] := by
  unfold decodes; decide +kernel

theorem test_decode_Ax :
    decodes
      [([0xA0#8, 0x34#8], Instr.ldyImm 0x34#8), ([0xA1#8, 0x34#8], Instr.ldaIzx 0x34#8),
       ([0xA2#8, 0x34#8], Instr.ldxImm 0x34#8), ([0xA3#8, 0x34#8], Instr.laxIzx 0x34#8),
       ([0xA4#8, 0x34#8], Instr.ldyZp 0x34#8), ([0xA5#8, 0x34#8], Instr.ldaZp 0x34#8),
       ([0xA6#8, 0x34#8], Instr.ldxZp 0x34#8), ([0xA7#8, 0x34#8], Instr.laxZp 0x34#8), ([0xA8#8], Instr.tay),
       ([0xA9#8, 0x34#8], Instr.ldaImm 0x34#8), ([0xAA#8], Instr.tax), ([0xAB#8, 0x34#8], Instr.laxImm 0x34#8),
       ([0xAC#8, 0x34#8, 0x12#8], Instr.ldyAbs 0x1234#16), ([0xAD#8, 0x34#8, 0x12#8], Instr.ldaAbs 0x1234#16),
       ([0xAE#8, 0x34#8, 0x12#8], Instr.ldxAbs 0x1234#16), ([0xAF#8, 0x34#8, 0x12#8], Instr.laxAbs 0x1234#16)] := by
  unfold decodes; decide +kernel

theorem test_decode_Bx :
    decodes
      [([0xB0#8, 0x34#8], Instr.bcs 0x34#8), ([0xB1#8, 0x34#8], Instr.ldaIzy 0x34#8), ([0xB2#8], Instr.jamB2),
       ([0xB3#8, 0x34#8], Instr.laxIzy 0x34#8), ([0xB4#8, 0x34#8], Instr.ldyZpx 0x34#8),
       ([0xB5#8, 0x34#8], Instr.ldaZpx 0x34#8), ([0xB6#8, 0x34#8], Instr.ldxZpy 0x34#8),
       ([0xB7#8, 0x34#8], Instr.laxZpy 0x34#8), ([0xB8#8], Instr.clv),
       ([0xB9#8, 0x34#8, 0x12#8], Instr.ldaAbsy 0x1234#16), ([0xBA#8], Instr.tsx),
       ([0xBB#8, 0x34#8, 0x12#8], Instr.lasAbsy 0x1234#16), ([0xBC#8, 0x34#8, 0x12#8], Instr.ldyAbsx 0x1234#16),
       ([0xBD#8, 0x34#8, 0x12#8], Instr.ldaAbsx 0x1234#16), ([0xBE#8, 0x34#8, 0x12#8], Instr.ldxAbsy 0x1234#16),
       ([0xBF#8, 0x34#8, 0x12#8], Instr.laxAbsy 0x1234#16)] := by
  unfold decodes; decide +kernel

theorem test_decode_Cx :
    decodes
      [([0xC0#8, 0x34#8], Instr.cpyImm 0x34#8), ([0xC1#8, 0x34#8], Instr.cmpIzx 0x34#8),
       ([0xC2#8, 0x34#8], Instr.nopImmC2 0x34#8), ([0xC3#8, 0x34#8], Instr.dcpIzx 0x34#8),
       ([0xC4#8, 0x34#8], Instr.cpyZp 0x34#8), ([0xC5#8, 0x34#8], Instr.cmpZp 0x34#8),
       ([0xC6#8, 0x34#8], Instr.decZp 0x34#8), ([0xC7#8, 0x34#8], Instr.dcpZp 0x34#8), ([0xC8#8], Instr.iny),
       ([0xC9#8, 0x34#8], Instr.cmpImm 0x34#8), ([0xCA#8], Instr.dex), ([0xCB#8, 0x34#8], Instr.axsImm 0x34#8),
       ([0xCC#8, 0x34#8, 0x12#8], Instr.cpyAbs 0x1234#16), ([0xCD#8, 0x34#8, 0x12#8], Instr.cmpAbs 0x1234#16),
       ([0xCE#8, 0x34#8, 0x12#8], Instr.decAbs 0x1234#16), ([0xCF#8, 0x34#8, 0x12#8], Instr.dcpAbs 0x1234#16)] := by
  unfold decodes; decide +kernel

theorem test_decode_Dx :
    decodes
      [([0xD0#8, 0x34#8], Instr.bne 0x34#8), ([0xD1#8, 0x34#8], Instr.cmpIzy 0x34#8), ([0xD2#8], Instr.jamD2),
       ([0xD3#8, 0x34#8], Instr.dcpIzy 0x34#8), ([0xD4#8, 0x34#8], Instr.nopZpxD4 0x34#8),
       ([0xD5#8, 0x34#8], Instr.cmpZpx 0x34#8), ([0xD6#8, 0x34#8], Instr.decZpx 0x34#8),
       ([0xD7#8, 0x34#8], Instr.dcpZpx 0x34#8), ([0xD8#8], Instr.cld),
       ([0xD9#8, 0x34#8, 0x12#8], Instr.cmpAbsy 0x1234#16), ([0xDA#8], Instr.nopImpDA),
       ([0xDB#8, 0x34#8, 0x12#8], Instr.dcpAbsy 0x1234#16), ([0xDC#8, 0x34#8, 0x12#8], Instr.nopAbsxDC 0x1234#16),
       ([0xDD#8, 0x34#8, 0x12#8], Instr.cmpAbsx 0x1234#16), ([0xDE#8, 0x34#8, 0x12#8], Instr.decAbsx 0x1234#16),
       ([0xDF#8, 0x34#8, 0x12#8], Instr.dcpAbsx 0x1234#16)] := by
  unfold decodes; decide +kernel

theorem test_decode_Ex :
    decodes
      [([0xE0#8, 0x34#8], Instr.cpxImm 0x34#8), ([0xE1#8, 0x34#8], Instr.sbcIzx 0x34#8),
       ([0xE2#8, 0x34#8], Instr.nopImmE2 0x34#8), ([0xE3#8, 0x34#8], Instr.iscIzx 0x34#8),
       ([0xE4#8, 0x34#8], Instr.cpxZp 0x34#8), ([0xE5#8, 0x34#8], Instr.sbcZp 0x34#8),
       ([0xE6#8, 0x34#8], Instr.incZp 0x34#8), ([0xE7#8, 0x34#8], Instr.iscZp 0x34#8), ([0xE8#8], Instr.inx),
       ([0xE9#8, 0x34#8], Instr.sbcImm 0x34#8), ([0xEA#8], Instr.nop), ([0xEB#8, 0x34#8], Instr.sbcImmEB 0x34#8),
       ([0xEC#8, 0x34#8, 0x12#8], Instr.cpxAbs 0x1234#16), ([0xED#8, 0x34#8, 0x12#8], Instr.sbcAbs 0x1234#16),
       ([0xEE#8, 0x34#8, 0x12#8], Instr.incAbs 0x1234#16), ([0xEF#8, 0x34#8, 0x12#8], Instr.iscAbs 0x1234#16)] := by
  unfold decodes; decide +kernel

theorem test_decode_Fx :
    decodes
      [([0xF0#8, 0x34#8], Instr.beq 0x34#8), ([0xF1#8, 0x34#8], Instr.sbcIzy 0x34#8), ([0xF2#8], Instr.jamF2),
       ([0xF3#8, 0x34#8], Instr.iscIzy 0x34#8), ([0xF4#8, 0x34#8], Instr.nopZpxF4 0x34#8),
       ([0xF5#8, 0x34#8], Instr.sbcZpx 0x34#8), ([0xF6#8, 0x34#8], Instr.incZpx 0x34#8),
       ([0xF7#8, 0x34#8], Instr.iscZpx 0x34#8), ([0xF8#8], Instr.sed),
       ([0xF9#8, 0x34#8, 0x12#8], Instr.sbcAbsy 0x1234#16), ([0xFA#8], Instr.nopImpFA),
       ([0xFB#8, 0x34#8, 0x12#8], Instr.iscAbsy 0x1234#16), ([0xFC#8, 0x34#8, 0x12#8], Instr.nopAbsxFC 0x1234#16),
       ([0xFD#8, 0x34#8, 0x12#8], Instr.sbcAbsx 0x1234#16), ([0xFE#8, 0x34#8, 0x12#8], Instr.incAbsx 0x1234#16),
       ([0xFF#8, 0x34#8, 0x12#8], Instr.iscAbsx 0x1234#16)] := by
  unfold decodes; decide +kernel

/-- The opcode table's own numbering: the first byte in bits 7 to 0. -/
theorem test_table_word :
    decodeTableWord 24 0x12349D = some (.staAbsx 0x1234#16) ∧ decodeTableWord 8 0xEA = some .nop := by decide +kernel

/-! ## Single steps: the spec's vectors -/

/-- The base state of 95_test_vectors.md section 2. -/
def base : State :=
  { State.reset with
    pc := 0x0200#16, p := ⟨false, false, false, false, false, false⟩, cycles := 0#64 }

/-- The vectors' cartridge with PRG bytes `m`, keyed from 0x8000. -/
def prg (m : Memory) : Cart := { Cart.blank with prg := m }

/-- One step from `s` ends with the registers `r` and the RAM `ram`, `n` cycles later. -/
def after (s : State) (r : Regs) (n : Nat) (ram : Memory) : Bool :=
  match step s with
  | .next t => t.regs == r && t.cycles == s.cycles + BitVec.ofNat 64 n && t.ram == ram
  | _ => false

/-- One step from `s` answers a next state of which `f` holds. -/
def nextIs (s : State) (f : State → Bool) : Bool :=
  match step s with
  | .next t => f t
  | _ => false

/-- The instruction answers a next state at `s`. -/
def completes (i : Instr) (s : State) : Bool :=
  match exec i s with
  | .next _ => true
  | _ => false

/-- V40-01 (R134, R150, R170). -/
theorem test_ldaZp_40_01 :
    after { base with ram := [(0x10, 0x80#8), (0x200, 0xA5#8), (0x201, 0x10#8)] }
      (0x80#8, 0x00#8, 0x00#8, 0xFD#8, 0x0202#16, ⟨true, false, false, false, false, false⟩)
      3 [(0x10, 0x80#8), (0x200, 0xA5#8), (0x201, 0x10#8)] = true := by
  decide +kernel

/-- V40-02 (R135). -/
theorem test_ldaZpx_40_02 :
    after { base with x := 0x01#8, ram := [(0x0, 0x37#8), (0xFF, 0x99#8), (0x200, 0xB5#8), (0x201, 0xFF#8)] }
      (0x37#8, 0x01#8, 0x00#8, 0xFD#8, 0x0202#16, ⟨false, false, false, false, false, false⟩)
      4 [(0x0, 0x37#8), (0xFF, 0x99#8), (0x200, 0xB5#8), (0x201, 0xFF#8)] = true := by
  decide +kernel

/-- V40-03 (R136). -/
theorem test_ldxZpy_40_03 :
    after { base with y := 0x02#8, ram := [(0x1, 0x05#8), (0x200, 0xB6#8), (0x201, 0xFF#8)] }
      (0x00#8, 0x05#8, 0x02#8, 0xFD#8, 0x0202#16, ⟨false, false, false, false, false, false⟩)
      4 [(0x1, 0x05#8), (0x200, 0xB6#8), (0x201, 0xFF#8)] = true := by
  decide +kernel

/-- V40-04 (R137). -/
theorem test_ldaAbs_40_04 :
    after { base with ram := [(0x200, 0xAD#8), (0x201, 0x34#8), (0x202, 0x02#8), (0x234, 0x01#8)] }
      (0x01#8, 0x00#8, 0x00#8, 0xFD#8, 0x0203#16, ⟨false, false, false, false, false, false⟩)
      4 [(0x200, 0xAD#8), (0x201, 0x34#8), (0x202, 0x02#8), (0x234, 0x01#8)] = true := by
  decide +kernel

/-- V40-06 (R138, R150). -/
theorem test_ldaAbsx_40_06 :
    after { base with x := 0x20#8, ram := [(0x200, 0xBD#8), (0x201, 0xF0#8), (0x202, 0x02#8), (0x310, 0x22#8)] }
      (0x22#8, 0x20#8, 0x00#8, 0xFD#8, 0x0203#16, ⟨false, false, false, false, false, false⟩)
      5 [(0x200, 0xBD#8), (0x201, 0xF0#8), (0x202, 0x02#8), (0x310, 0x22#8)] = true := by
  decide +kernel

/-- V40-07 (R138). -/
theorem test_ldaAbsx_40_07 :
    after { base with x := 0x01#8, ram := [(0x0, 0x5A#8), (0x200, 0xBD#8), (0x201, 0xFF#8), (0x202, 0xFF#8)] }
      (0x5A#8, 0x01#8, 0x00#8, 0xFD#8, 0x0203#16, ⟨false, false, false, false, false, false⟩)
      5 [(0x0, 0x5A#8), (0x200, 0xBD#8), (0x201, 0xFF#8), (0x202, 0xFF#8)] = true := by
  decide +kernel

/-- V40-08 (R138, R150). -/
theorem test_ldaAbsy_40_08 :
    after { base with y := 0x01#8, ram := [(0x200, 0xB9#8), (0x201, 0xFF#8), (0x202, 0x02#8), (0x300, 0x7E#8)] }
      (0x7E#8, 0x00#8, 0x01#8, 0xFD#8, 0x0203#16, ⟨false, false, false, false, false, false⟩)
      5 [(0x200, 0xB9#8), (0x201, 0xFF#8), (0x202, 0x02#8), (0x300, 0x7E#8)] = true := by
  decide +kernel

/-- V40-09 (R139). -/
theorem test_ldaIzx_40_09 :
    after { base with x := 0x01#8, ram := [(0x0, 0x04#8), (0x200, 0xA1#8), (0x201, 0xFE#8), (0x400, 0x66#8)] }
      (0x66#8, 0x01#8, 0x00#8, 0xFD#8, 0x0202#16, ⟨false, false, false, false, false, false⟩)
      6 [(0x0, 0x04#8), (0x200, 0xA1#8), (0x201, 0xFE#8), (0x400, 0x66#8)] = true := by
  decide +kernel

/-- V40-10 (R139). -/
theorem test_ldaIzx_40_10 :
    after { base with x := 0x20#8, ram := [(0x11, 0x04#8), (0x200, 0xA1#8), (0x201, 0xF0#8), (0x400, 0x67#8)] }
      (0x67#8, 0x20#8, 0x00#8, 0xFD#8, 0x0202#16, ⟨false, false, false, false, false, false⟩)
      6 [(0x11, 0x04#8), (0x200, 0xA1#8), (0x201, 0xF0#8), (0x400, 0x67#8)] = true := by
  decide +kernel

/-- V40-12 (R140, R150). -/
theorem test_ldaIzy_40_12 :
    after
      { base with
        y := 0x10#8,
        ram := [(0x20, 0xF8#8), (0x21, 0x03#8), (0x200, 0xB1#8), (0x201, 0x20#8), (0x408, 0x44#8)] }
      (0x44#8, 0x00#8, 0x10#8, 0xFD#8, 0x0202#16, ⟨false, false, false, false, false, false⟩)
      6 [(0x20, 0xF8#8), (0x21, 0x03#8), (0x200, 0xB1#8), (0x201, 0x20#8), (0x408, 0x44#8)] = true := by
  decide +kernel

/-- V40-13 (R140). -/
theorem test_ldaIzy_40_13 :
    after { base with ram := [(0x0, 0x05#8), (0x200, 0xB1#8), (0x201, 0xFF#8), (0x500, 0x55#8)] }
      (0x55#8, 0x00#8, 0x00#8, 0xFD#8, 0x0202#16, ⟨false, false, false, false, false, false⟩)
      5 [(0x0, 0x05#8), (0x200, 0xB1#8), (0x201, 0xFF#8), (0x500, 0x55#8)] = true := by
  decide +kernel

/-- V40-15 (R151). -/
theorem test_staAbsx_40_15 :
    after { base with a := 0xAB#8, x := 0x05#8, ram := [(0x200, 0x9D#8), (0x202, 0x03#8)] }
      (0xAB#8, 0x05#8, 0x00#8, 0xFD#8, 0x0203#16, ⟨false, false, false, false, false, false⟩)
      5 [(0x200, 0x9D#8), (0x202, 0x03#8), (0x305, 0xAB#8)] = true := by
  decide +kernel

/-- V40-16 (R151). -/
theorem test_staIzy_40_16 :
    after
      { base with
        a := 0xCD#8, y := 0x10#8,
        ram := [(0x20, 0xF8#8), (0x21, 0x03#8), (0x200, 0x91#8), (0x201, 0x20#8)] }
      (0xCD#8, 0x00#8, 0x10#8, 0xFD#8, 0x0202#16, ⟨false, false, false, false, false, false⟩)
      6 [(0x20, 0xF8#8), (0x21, 0x03#8), (0x200, 0x91#8), (0x201, 0x20#8), (0x408, 0xCD#8)] = true := by
  decide +kernel

/-- V40-17 (R151). -/
theorem test_incAbsx_40_17 :
    after { base with x := 0x01#8, ram := [(0x200, 0xFE#8), (0x202, 0x03#8), (0x301, 0x41#8)] }
      (0x00#8, 0x01#8, 0x00#8, 0xFD#8, 0x0203#16, ⟨false, false, false, false, false, false⟩)
      7 [(0x200, 0xFE#8), (0x202, 0x03#8), (0x301, 0x42#8)] = true := by
  decide +kernel

/-- V40-18 (R151, R135). -/
theorem test_decZpx_40_18 :
    after { base with x := 0x02#8, ram := [(0x200, 0xD6#8), (0x201, 0xFF#8)] }
      (0x00#8, 0x02#8, 0x00#8, 0xFD#8, 0x0202#16, ⟨true, false, false, false, false, false⟩)
      6 [(0x1, 0xFF#8), (0x200, 0xD6#8), (0x201, 0xFF#8)] = true := by
  decide +kernel

/-- V41-02 (R170). -/
theorem test_ldaImm_41_02 :
    after { base with p := ⟨true, false, false, false, false, false⟩, ram := [(0x200, 0xA9#8)] }
      (0x00#8, 0x00#8, 0x00#8, 0xFD#8, 0x0202#16, ⟨false, false, false, false, true, false⟩)
      2 [(0x200, 0xA9#8)] = true := by
  decide +kernel

/-- V41-03 (R171). -/
theorem test_ldxImm_41_03 :
    after { base with ram := [(0x200, 0xA2#8), (0x201, 0xFF#8)] }
      (0x00#8, 0xFF#8, 0x00#8, 0xFD#8, 0x0202#16, ⟨true, false, false, false, false, false⟩)
      2 [(0x200, 0xA2#8), (0x201, 0xFF#8)] = true := by
  decide +kernel

/-- V41-04 (R171). -/
theorem test_ldxAbsy_41_04 :
    after { base with y := 0x90#8, ram := [(0x200, 0xBE#8), (0x201, 0x80#8), (0x202, 0x02#8), (0x310, 0x0F#8)] }
      (0x00#8, 0x0F#8, 0x90#8, 0xFD#8, 0x0203#16, ⟨false, false, false, false, false, false⟩)
      5 [(0x200, 0xBE#8), (0x201, 0x80#8), (0x202, 0x02#8), (0x310, 0x0F#8)] = true := by
  decide +kernel

/-- V41-05 (R172). -/
theorem test_ldyZpx_41_05 :
    after { base with x := 0x11#8, ram := [(0x1, 0x80#8), (0x200, 0xB4#8), (0x201, 0xF0#8)] }
      (0x00#8, 0x11#8, 0x80#8, 0xFD#8, 0x0202#16, ⟨true, false, false, false, false, false⟩)
      4 [(0x1, 0x80#8), (0x200, 0xB4#8), (0x201, 0xF0#8)] = true := by
  decide +kernel

/-- V41-06 (R173). -/
theorem test_staAbs_41_06 :
    after { base with a := 0x42#8, ram := [(0x200, 0x8D#8), (0x202, 0x03#8)] }
      (0x42#8, 0x00#8, 0x00#8, 0xFD#8, 0x0203#16, ⟨false, false, false, false, false, false⟩)
      4 [(0x200, 0x8D#8), (0x202, 0x03#8), (0x300, 0x42#8)] = true := by
  decide +kernel

/-- V41-07 (R173). -/
theorem test_staIzx_41_07 :
    after
      { base with
        a := 0x99#8, x := 0x02#8,
        ram := [(0x12, 0x34#8), (0x13, 0x03#8), (0x200, 0x81#8), (0x201, 0x10#8)] }
      (0x99#8, 0x02#8, 0x00#8, 0xFD#8, 0x0202#16, ⟨false, false, false, false, false, false⟩)
      6 [(0x12, 0x34#8), (0x13, 0x03#8), (0x200, 0x81#8), (0x201, 0x10#8), (0x334, 0x99#8)] = true := by
  decide +kernel

/-- V41-08 (R174). -/
theorem test_stxZpy_41_08 :
    after { base with x := 0x07#8, y := 0x02#8, ram := [(0x200, 0x96#8), (0x201, 0xFF#8)] }
      (0x00#8, 0x07#8, 0x02#8, 0xFD#8, 0x0202#16, ⟨false, false, false, false, false, false⟩)
      4 [(0x1, 0x07#8), (0x200, 0x96#8), (0x201, 0xFF#8)] = true := by
  decide +kernel

/-- V41-09 (R175). -/
theorem test_styZpx_41_09 :
    after { base with x := 0x10#8, y := 0x01#8, ram := [(0x200, 0x94#8), (0x201, 0xF8#8)] }
      (0x00#8, 0x10#8, 0x01#8, 0xFD#8, 0x0202#16, ⟨false, false, false, false, false, false⟩)
      4 [(0x8, 0x01#8), (0x200, 0x94#8), (0x201, 0xF8#8)] = true := by
  decide +kernel

/-- V41-10 (R176). -/
theorem test_tax_41_10 :
    after { base with a := 0x80#8, ram := [(0x200, 0xAA#8)] }
      (0x80#8, 0x80#8, 0x00#8, 0xFD#8, 0x0201#16, ⟨true, false, false, false, false, false⟩)
      2 [(0x200, 0xAA#8)] = true := by
  decide +kernel

/-- V41-11 (R177). -/
theorem test_tay_41_11 :
    after { base with ram := [(0x200, 0xA8#8)] }
      (0x00#8, 0x00#8, 0x00#8, 0xFD#8, 0x0201#16, ⟨false, false, false, false, true, false⟩)
      2 [(0x200, 0xA8#8)] = true := by
  decide +kernel

/-- V41-12 (R178). -/
theorem test_txa_41_12 :
    after { base with x := 0x7F#8, p := ⟨true, false, false, false, false, false⟩, ram := [(0x200, 0x8A#8)] }
      (0x7F#8, 0x7F#8, 0x00#8, 0xFD#8, 0x0201#16, ⟨false, false, false, false, false, false⟩)
      2 [(0x200, 0x8A#8)] = true := by
  decide +kernel

/-- V41-13 (R179). -/
theorem test_tya_41_13 :
    after { base with y := 0xC0#8, ram := [(0x200, 0x98#8)] }
      (0xC0#8, 0x00#8, 0xC0#8, 0xFD#8, 0x0201#16, ⟨true, false, false, false, false, false⟩)
      2 [(0x200, 0x98#8)] = true := by
  decide +kernel

/-- V41-14 (R180). -/
theorem test_tsx_41_14 :
    after { base with ram := [(0x200, 0xBA#8)] }
      (0x00#8, 0xFD#8, 0x00#8, 0xFD#8, 0x0201#16, ⟨true, false, false, false, false, false⟩)
      2 [(0x200, 0xBA#8)] = true := by
  decide +kernel

/-- V41-15 (R181). -/
theorem test_txs_41_15 :
    after { base with p := ⟨true, false, false, false, false, false⟩, ram := [(0x200, 0x9A#8)] }
      (0x00#8, 0x00#8, 0x00#8, 0x00#8, 0x0201#16, ⟨true, false, false, false, false, false⟩)
      2 [(0x200, 0x9A#8)] = true := by
  decide +kernel

/-- V42-02 (R190, R70). -/
theorem test_pha_42_02 :
    after { base with a := 0x77#8, s := 0x00#8, ram := [(0x200, 0x48#8)] }
      (0x77#8, 0x00#8, 0x00#8, 0xFF#8, 0x0201#16, ⟨false, false, false, false, false, false⟩)
      3 [(0x100, 0x77#8), (0x200, 0x48#8)] = true := by
  decide +kernel

/-- V42-03 (R191). -/
theorem test_php_42_03 :
    after { base with p := ⟨true, false, false, false, false, true⟩, ram := [(0x200, 0x08#8)] }
      (0x00#8, 0x00#8, 0x00#8, 0xFC#8, 0x0201#16, ⟨true, false, false, false, false, true⟩)
      3 [(0x1FD, 0xB1#8), (0x200, 0x08#8)] = true := by
  decide +kernel

/-- V42-05 (R192). -/
theorem test_pla_42_05 :
    after { base with s := 0xFC#8, ram := [(0x200, 0x68#8)] }
      (0x00#8, 0x00#8, 0x00#8, 0xFD#8, 0x0201#16, ⟨false, false, false, false, true, false⟩)
      4 [(0x200, 0x68#8)] = true := by
  decide +kernel

/-- V42-07 (R193). -/
theorem test_plp_42_07 :
    after { base with s := 0xFC#8, ram := [(0x1FD, 0xFF#8), (0x200, 0x28#8)] }
      (0x00#8, 0x00#8, 0x00#8, 0xFD#8, 0x0201#16, ⟨true, true, true, true, true, true⟩)
      4 [(0x1FD, 0xFF#8), (0x200, 0x28#8)] = true := by
  decide +kernel

/-- V43-02 (R201). -/
theorem test_adcImm_43_02 :
    after { base with a := 0x7F#8, ram := [(0x200, 0x69#8), (0x201, 0x01#8)] }
      (0x80#8, 0x00#8, 0x00#8, 0xFD#8, 0x0202#16, ⟨true, true, false, false, false, false⟩)
      2 [(0x200, 0x69#8), (0x201, 0x01#8)] = true := by
  decide +kernel

/-- V43-06 (R201, R2). -/
theorem test_adcImm_43_06 :
    after
      { base with
        a := 0x09#8, p := ⟨false, false, true, false, false, false⟩,
        ram := [(0x200, 0x69#8), (0x201, 0x09#8)] }
      (0x12#8, 0x00#8, 0x00#8, 0xFD#8, 0x0202#16, ⟨false, false, true, false, false, false⟩)
      2 [(0x200, 0x69#8), (0x201, 0x09#8)] = true := by
  decide +kernel

/-- V43-10 (R202). -/
theorem test_sbcImm_43_10 :
    after
      { base with
        a := 0x50#8, p := ⟨false, false, false, false, false, true⟩,
        ram := [(0x200, 0xE9#8), (0x201, 0xB0#8)] }
      (0xA0#8, 0x00#8, 0x00#8, 0xFD#8, 0x0202#16, ⟨true, true, false, false, false, false⟩)
      2 [(0x200, 0xE9#8), (0x201, 0xB0#8)] = true := by
  decide +kernel

/-- V43-11 (R202). -/
theorem test_sbcImm_43_11 :
    after { base with a := 0x42#8, ram := [(0x200, 0xE9#8), (0x201, 0x42#8)] }
      (0xFF#8, 0x00#8, 0x00#8, 0xFD#8, 0x0202#16, ⟨true, false, false, false, false, false⟩)
      2 [(0x200, 0xE9#8), (0x201, 0x42#8)] = true := by
  decide +kernel

/-- V43-12 (R203). -/
theorem test_andImm_43_12 :
    after { base with a := 0xF0#8, ram := [(0x200, 0x29#8), (0x201, 0x3C#8)] }
      (0x30#8, 0x00#8, 0x00#8, 0xFD#8, 0x0202#16, ⟨false, false, false, false, false, false⟩)
      2 [(0x200, 0x29#8), (0x201, 0x3C#8)] = true := by
  decide +kernel

/-- V43-13 (R204). -/
theorem test_oraImm_43_13 :
    after { base with a := 0x01#8, ram := [(0x200, 0x09#8), (0x201, 0x80#8)] }
      (0x81#8, 0x00#8, 0x00#8, 0xFD#8, 0x0202#16, ⟨true, false, false, false, false, false⟩)
      2 [(0x200, 0x09#8), (0x201, 0x80#8)] = true := by
  decide +kernel

/-- V43-14 (R205). -/
theorem test_eorImm_43_14 :
    after { base with a := 0xFF#8, ram := [(0x200, 0x49#8), (0x201, 0xFF#8)] }
      (0x00#8, 0x00#8, 0x00#8, 0xFD#8, 0x0202#16, ⟨false, false, false, false, true, false⟩)
      2 [(0x200, 0x49#8), (0x201, 0xFF#8)] = true := by
  decide +kernel

/-- V43-15 (R207). -/
theorem test_cmpImm_43_15 :
    after { base with a := 0x10#8, ram := [(0x200, 0xC9#8), (0x201, 0x20#8)] }
      (0x10#8, 0x00#8, 0x00#8, 0xFD#8, 0x0202#16, ⟨true, false, false, false, false, false⟩)
      2 [(0x200, 0xC9#8), (0x201, 0x20#8)] = true := by
  decide +kernel

/-- V43-17 (R207). -/
theorem test_cmpImm_43_17 :
    after
      { base with
        a := 0x42#8, p := ⟨false, true, false, false, false, false⟩,
        ram := [(0x200, 0xC9#8), (0x201, 0x42#8)] }
      (0x42#8, 0x00#8, 0x00#8, 0xFD#8, 0x0202#16, ⟨false, true, false, false, true, true⟩)
      2 [(0x200, 0xC9#8), (0x201, 0x42#8)] = true := by
  decide +kernel

/-- V43-18 (R208). -/
theorem test_cpxImm_43_18 :
    after { base with x := 0x05#8, ram := [(0x200, 0xE0#8), (0x201, 0x05#8)] }
      (0x00#8, 0x05#8, 0x00#8, 0xFD#8, 0x0202#16, ⟨false, false, false, false, true, true⟩)
      2 [(0x200, 0xE0#8), (0x201, 0x05#8)] = true := by
  decide +kernel

/-- V43-19 (R209). -/
theorem test_cpyImm_43_19 :
    after { base with y := 0xFF#8, ram := [(0x200, 0xC0#8)] }
      (0x00#8, 0x00#8, 0xFF#8, 0xFD#8, 0x0202#16, ⟨true, false, false, false, false, true⟩)
      2 [(0x200, 0xC0#8)] = true := by
  decide +kernel

/-- V43-20 (R210). -/
theorem test_bitZp_43_20 :
    after { base with a := 0x01#8, ram := [(0x10, 0xC0#8), (0x200, 0x24#8), (0x201, 0x10#8)] }
      (0x01#8, 0x00#8, 0x00#8, 0xFD#8, 0x0202#16, ⟨true, true, false, false, true, false⟩)
      3 [(0x10, 0xC0#8), (0x200, 0x24#8), (0x201, 0x10#8)] = true := by
  decide +kernel

/-- V43-21 (R210). -/
theorem test_bitAbs_43_21 :
    after
      { base with
        a := 0x3F#8, p := ⟨false, false, false, false, false, true⟩,
        ram := [(0x200, 0x2C#8), (0x202, 0x03#8), (0x300, 0x01#8)] }
      (0x3F#8, 0x00#8, 0x00#8, 0xFD#8, 0x0203#16, ⟨false, false, false, false, false, true⟩)
      4 [(0x200, 0x2C#8), (0x202, 0x03#8), (0x300, 0x01#8)] = true := by
  decide +kernel

/-- V43-22 (R211). -/
theorem test_incZp_43_22 :
    after
      { base with
        p := ⟨false, true, false, false, false, true⟩,
        ram := [(0x10, 0xFF#8), (0x200, 0xE6#8), (0x201, 0x10#8)] }
      (0x00#8, 0x00#8, 0x00#8, 0xFD#8, 0x0202#16, ⟨false, true, false, false, true, true⟩)
      5 [(0x200, 0xE6#8), (0x201, 0x10#8)] = true := by
  decide +kernel

/-- V43-23 (R212). -/
theorem test_decAbs_43_23 :
    after { base with ram := [(0x200, 0xCE#8), (0x202, 0x03#8), (0x300, 0x80#8)] }
      (0x00#8, 0x00#8, 0x00#8, 0xFD#8, 0x0203#16, ⟨false, false, false, false, false, false⟩)
      6 [(0x200, 0xCE#8), (0x202, 0x03#8), (0x300, 0x7F#8)] = true := by
  decide +kernel

/-- V43-24 (R213). -/
theorem test_inx_43_24 :
    after { base with x := 0xFF#8, p := ⟨false, false, false, false, false, true⟩, ram := [(0x200, 0xE8#8)] }
      (0x00#8, 0x00#8, 0x00#8, 0xFD#8, 0x0201#16, ⟨false, false, false, false, true, true⟩)
      2 [(0x200, 0xE8#8)] = true := by
  decide +kernel

/-- V43-25 (R214). -/
theorem test_iny_43_25 :
    after { base with y := 0x7F#8, ram := [(0x200, 0xC8#8)] }
      (0x00#8, 0x00#8, 0x80#8, 0xFD#8, 0x0201#16, ⟨true, false, false, false, false, false⟩)
      2 [(0x200, 0xC8#8)] = true := by
  decide +kernel

/-- V43-26 (R215). -/
theorem test_dex_43_26 :
    after { base with ram := [(0x200, 0xCA#8)] }
      (0x00#8, 0xFF#8, 0x00#8, 0xFD#8, 0x0201#16, ⟨true, false, false, false, false, false⟩)
      2 [(0x200, 0xCA#8)] = true := by
  decide +kernel

/-- V43-27 (R216). -/
theorem test_dey_43_27 :
    after { base with y := 0x01#8, ram := [(0x200, 0x88#8)] }
      (0x00#8, 0x00#8, 0x00#8, 0xFD#8, 0x0201#16, ⟨false, false, false, false, true, false⟩)
      2 [(0x200, 0x88#8)] = true := by
  decide +kernel

/-- V44-01 (R231). -/
theorem test_aslAcc_44_01 :
    after { base with a := 0x81#8, ram := [(0x200, 0x0A#8)] }
      (0x02#8, 0x00#8, 0x00#8, 0xFD#8, 0x0201#16, ⟨false, false, false, false, false, true⟩)
      2 [(0x200, 0x0A#8)] = true := by
  decide +kernel

/-- V44-02 (R231). -/
theorem test_aslZp_44_02 :
    after { base with ram := [(0x10, 0x80#8), (0x200, 0x06#8), (0x201, 0x10#8)] }
      (0x00#8, 0x00#8, 0x00#8, 0xFD#8, 0x0202#16, ⟨false, false, false, false, true, true⟩)
      5 [(0x200, 0x06#8), (0x201, 0x10#8)] = true := by
  decide +kernel

/-- V44-03 (R231). -/
theorem test_aslAbsx_44_03 :
    after { base with x := 0x20#8, ram := [(0x200, 0x1E#8), (0x201, 0xF0#8), (0x202, 0x02#8), (0x310, 0x40#8)] }
      (0x00#8, 0x20#8, 0x00#8, 0xFD#8, 0x0203#16, ⟨true, false, false, false, false, false⟩)
      7 [(0x200, 0x1E#8), (0x201, 0xF0#8), (0x202, 0x02#8), (0x310, 0x80#8)] = true := by
  decide +kernel

/-- V44-04 (R232). -/
theorem test_lsrZp_44_04 :
    after { base with ram := [(0x40, 0x03#8), (0x200, 0x46#8), (0x201, 0x40#8)] }
      (0x00#8, 0x00#8, 0x00#8, 0xFD#8, 0x0202#16, ⟨false, false, false, false, false, true⟩)
      5 [(0x40, 0x01#8), (0x200, 0x46#8), (0x201, 0x40#8)] = true := by
  decide +kernel

/-- V44-05 (R232). -/
theorem test_lsrAcc_44_05 :
    after { base with a := 0x01#8, p := ⟨true, false, false, false, false, false⟩, ram := [(0x200, 0x4A#8)] }
      (0x00#8, 0x00#8, 0x00#8, 0xFD#8, 0x0201#16, ⟨false, false, false, false, true, true⟩)
      2 [(0x200, 0x4A#8)] = true := by
  decide +kernel

/-- V44-06 (R233). -/
theorem test_rolAcc_44_06 :
    after { base with a := 0x40#8, p := ⟨false, false, false, false, false, true⟩, ram := [(0x200, 0x2A#8)] }
      (0x81#8, 0x00#8, 0x00#8, 0xFD#8, 0x0201#16, ⟨true, false, false, false, false, false⟩)
      2 [(0x200, 0x2A#8)] = true := by
  decide +kernel

/-- V44-07 (R233). -/
theorem test_rolZp_44_07 :
    after { base with ram := [(0x10, 0x80#8), (0x200, 0x26#8), (0x201, 0x10#8)] }
      (0x00#8, 0x00#8, 0x00#8, 0xFD#8, 0x0202#16, ⟨false, false, false, false, true, true⟩)
      5 [(0x200, 0x26#8), (0x201, 0x10#8)] = true := by
  decide +kernel

/-- V44-08 (R234). -/
theorem test_rorAcc_44_08 :
    after { base with a := 0x02#8, p := ⟨false, false, false, false, false, true⟩, ram := [(0x200, 0x6A#8)] }
      (0x81#8, 0x00#8, 0x00#8, 0xFD#8, 0x0201#16, ⟨true, false, false, false, false, false⟩)
      2 [(0x200, 0x6A#8)] = true := by
  decide +kernel

/-- V44-09 (R234). -/
theorem test_rorAbs_44_09 :
    after { base with p := ⟨false, false, false, false, false, true⟩, ram := [(0x200, 0x6E#8), (0x202, 0x03#8)] }
      (0x00#8, 0x00#8, 0x00#8, 0xFD#8, 0x0203#16, ⟨true, false, false, false, false, false⟩)
      6 [(0x200, 0x6E#8), (0x202, 0x03#8), (0x300, 0x80#8)] = true := by
  decide +kernel

/-- V44-10 (R234). -/
theorem test_rorZpx_44_10 :
    after { base with x := 0x01#8, ram := [(0x11, 0x01#8), (0x200, 0x76#8), (0x201, 0x10#8)] }
      (0x00#8, 0x01#8, 0x00#8, 0xFD#8, 0x0202#16, ⟨false, false, false, false, true, true⟩)
      6 [(0x200, 0x76#8), (0x201, 0x10#8)] = true := by
  decide +kernel

/-- V45-01 (R240). -/
theorem test_jmpAbs_45_01 :
    after { base with pc := 0xC000#16, cart := prg [(0x4000, 0x4C#8), (0x4001, 0xF5#8), (0x4002, 0xC5#8)] }
      (0x00#8, 0x00#8, 0x00#8, 0xFD#8, 0xC5F5#16, ⟨false, false, false, false, false, false⟩)
      3 [] = true := by
  decide +kernel

/-- V45-02 (R240, R241). -/
theorem test_jmpInd_45_02 :
    after
      { base with
        pc := 0x0400#16,
        ram := [(0x200, 0x12#8), (0x2FF, 0x34#8), (0x300, 0x56#8), (0x400, 0x6C#8), (0x401, 0xFF#8), (0x402, 0x02#8)] }
      (0x00#8, 0x00#8, 0x00#8, 0xFD#8, 0x1234#16, ⟨false, false, false, false, false, false⟩)
      5 [(0x200, 0x12#8), (0x2FF, 0x34#8), (0x300, 0x56#8), (0x400, 0x6C#8), (0x401, 0xFF#8), (0x402, 0x02#8)] = true := by
  decide +kernel

/-- V45-05 (R242, R247). -/
theorem test_bne_45_05 :
    after
      { base with
        pc := 0x8000#16, p := ⟨false, false, false, false, true, false⟩,
        cart := prg [(0x0, 0xD0#8), (0x1, 0x02#8)] }
      (0x00#8, 0x00#8, 0x00#8, 0xFD#8, 0x8002#16, ⟨false, false, false, false, true, false⟩)
      2 [] = true := by
  decide +kernel

/-- V45-06 (R242, R247). -/
theorem test_bne_45_06 :
    after { base with pc := 0x80FC#16, cart := prg [(0xFC, 0xD0#8), (0xFD, 0x02#8)] }
      (0x00#8, 0x00#8, 0x00#8, 0xFD#8, 0x8100#16, ⟨false, false, false, false, false, false⟩)
      4 [] = true := by
  decide +kernel

/-- V45-07 (R242, R245). -/
theorem test_beq_45_07 :
    after
      { base with
        pc := 0x80F0#16, p := ⟨false, false, false, false, true, false⟩,
        cart := prg [(0xF0, 0xF0#8), (0xF1, 0x20#8)] }
      (0x00#8, 0x00#8, 0x00#8, 0xFD#8, 0x8112#16, ⟨false, false, false, false, true, false⟩)
      4 [] = true := by
  decide +kernel

/-- V45-08 (R242, R246). -/
theorem test_bmi_45_08 :
    after
      { base with
        pc := 0x8100#16, p := ⟨true, false, false, false, false, false⟩,
        cart := prg [(0x100, 0x30#8), (0x101, 0xFC#8)] }
      (0x00#8, 0x00#8, 0x00#8, 0xFD#8, 0x80FE#16, ⟨true, false, false, false, false, false⟩)
      4 [] = true := by
  decide +kernel

/-- V45-09 (R242, R249). -/
theorem test_bvc_45_09 :
    after { base with pc := 0xFFF0#16, cart := prg [(0x7FF0, 0x50#8), (0x7FF1, 0x20#8)] }
      (0x00#8, 0x00#8, 0x00#8, 0xFD#8, 0x0012#16, ⟨false, false, false, false, false, false⟩)
      4 [] = true := by
  decide +kernel

/-- V45-10 (R242, R250). -/
theorem test_bvs_45_10 :
    after
      { base with
        pc := 0x8000#16, p := ⟨false, true, false, false, false, false⟩,
        cart := prg [(0x0, 0x70#8), (0x1, 0x80#8)] }
      (0x00#8, 0x00#8, 0x00#8, 0xFD#8, 0x7F82#16, ⟨false, true, false, false, false, false⟩)
      4 [] = true := by
  decide +kernel

/-- V45-11 (R242, R243). -/
theorem test_bcc_45_11 :
    after { base with pc := 0x0300#16, ram := [(0x300, 0x90#8), (0x301, 0xFE#8)] }
      (0x00#8, 0x00#8, 0x00#8, 0xFD#8, 0x0300#16, ⟨false, false, false, false, false, false⟩)
      3 [(0x300, 0x90#8), (0x301, 0xFE#8)] = true := by
  decide +kernel

/-- V45-12 (R242, R244). -/
theorem test_bcs_45_12 :
    after
      { base with
        pc := 0x0300#16, p := ⟨false, false, false, false, false, true⟩,
        ram := [(0x300, 0xB0#8), (0x301, 0x7F#8)] }
      (0x00#8, 0x00#8, 0x00#8, 0xFD#8, 0x0381#16, ⟨false, false, false, false, false, true⟩)
      3 [(0x300, 0xB0#8), (0x301, 0x7F#8)] = true := by
  decide +kernel

/-- V45-13 (R242, R248). -/
theorem test_bpl_45_13 :
    after { base with pc := 0x0300#16, ram := [(0x300, 0x10#8)] }
      (0x00#8, 0x00#8, 0x00#8, 0xFD#8, 0x0302#16, ⟨false, false, false, false, false, false⟩)
      3 [(0x300, 0x10#8)] = true := by
  decide +kernel

/-- V45-14 (R251). -/
theorem test_jsr_45_14 :
    after { base with pc := 0xC000#16, cart := prg [(0x4000, 0x20#8), (0x4001, 0x2D#8), (0x4002, 0xC7#8)] }
      (0x00#8, 0x00#8, 0x00#8, 0xFB#8, 0xC72D#16, ⟨false, false, false, false, false, false⟩)
      6 [(0x1FC, 0x02#8), (0x1FD, 0xC0#8)] = true := by
  decide +kernel

/-- V45-15 (R252). -/
theorem test_rts_45_15 :
    after
      { base with
        s := 0xFB#8, pc := 0xC72D#16, ram := [(0x1FC, 0x02#8), (0x1FD, 0xC0#8)],
        cart := prg [(0x472D, 0x60#8)] }
      (0x00#8, 0x00#8, 0x00#8, 0xFD#8, 0xC003#16, ⟨false, false, false, false, false, false⟩)
      6 [(0x1FC, 0x02#8), (0x1FD, 0xC0#8)] = true := by
  decide +kernel

/-- V45-16 (R252, R70). -/
theorem test_rts_45_16 :
    after { base with s := 0xFF#8, pc := 0x0300#16, ram := [(0x100, 0xFF#8), (0x101, 0x04#8), (0x300, 0x60#8)] }
      (0x00#8, 0x00#8, 0x00#8, 0x01#8, 0x0500#16, ⟨false, false, false, false, false, false⟩)
      6 [(0x100, 0xFF#8), (0x101, 0x04#8), (0x300, 0x60#8)] = true := by
  decide +kernel

/-- V46-01 (R260). -/
theorem test_clc_46_01 :
    after { base with p := ⟨false, false, false, false, false, true⟩, ram := [(0x200, 0x18#8)] }
      (0x00#8, 0x00#8, 0x00#8, 0xFD#8, 0x0201#16, ⟨false, false, false, false, false, false⟩)
      2 [(0x200, 0x18#8)] = true := by
  decide +kernel

/-- V46-02 (R261). -/
theorem test_sec_46_02 :
    after { base with ram := [(0x200, 0x38#8)] }
      (0x00#8, 0x00#8, 0x00#8, 0xFD#8, 0x0201#16, ⟨false, false, false, false, false, true⟩)
      2 [(0x200, 0x38#8)] = true := by
  decide +kernel

/-- V46-03 (R262). -/
theorem test_cli_46_03 :
    after { base with p := ⟨false, false, false, true, false, false⟩, ram := [(0x200, 0x58#8)] }
      (0x00#8, 0x00#8, 0x00#8, 0xFD#8, 0x0201#16, ⟨false, false, false, false, false, false⟩)
      2 [(0x200, 0x58#8)] = true := by
  decide +kernel

/-- V46-04 (R263). -/
theorem test_sei_46_04 :
    after { base with ram := [(0x200, 0x78#8)] }
      (0x00#8, 0x00#8, 0x00#8, 0xFD#8, 0x0201#16, ⟨false, false, false, true, false, false⟩)
      2 [(0x200, 0x78#8)] = true := by
  decide +kernel

/-- V46-05 (R264). -/
theorem test_cld_46_05 :
    after { base with p := ⟨false, false, true, false, false, false⟩, ram := [(0x200, 0xD8#8)] }
      (0x00#8, 0x00#8, 0x00#8, 0xFD#8, 0x0201#16, ⟨false, false, false, false, false, false⟩)
      2 [(0x200, 0xD8#8)] = true := by
  decide +kernel

/-- V46-06 (R265). -/
theorem test_sed_46_06 :
    after { base with ram := [(0x200, 0xF8#8)] }
      (0x00#8, 0x00#8, 0x00#8, 0xFD#8, 0x0201#16, ⟨false, false, true, false, false, false⟩)
      2 [(0x200, 0xF8#8)] = true := by
  decide +kernel

/-- V46-07 (R266). -/
theorem test_clv_46_07 :
    after { base with p := ⟨false, true, false, false, false, false⟩, ram := [(0x200, 0xB8#8)] }
      (0x00#8, 0x00#8, 0x00#8, 0xFD#8, 0x0201#16, ⟨false, false, false, false, false, false⟩)
      2 [(0x200, 0xB8#8)] = true := by
  decide +kernel

/-- V46-08 (R267). -/
theorem test_nop_46_08 :
    after { base with pc := 0x8000#16, cart := prg [(0x0, 0xEA#8)] }
      (0x00#8, 0x00#8, 0x00#8, 0xFD#8, 0x8001#16, ⟨false, false, false, false, false, false⟩)
      2 [] = true := by
  decide +kernel

/-- V46-09 (R268). -/
theorem test_brk_46_09 :
    after { base with pc := 0x8000#16, cart := prg [(0x1, 0xFF#8), (0x7FFF, 0x90#8)] }
      (0x00#8, 0x00#8, 0x00#8, 0xFA#8, 0x9000#16, ⟨false, false, false, true, false, false⟩)
      7 [(0x1FB, 0x30#8), (0x1FC, 0x02#8), (0x1FD, 0x80#8)] = true := by
  decide +kernel

/-- V46-10 (R268, R70). -/
theorem test_brk_46_10 :
    after
      { base with
        s := 0x01#8, pc := 0x8000#16, p := ⟨true, false, true, true, false, true⟩,
        cart := prg [(0x1, 0xFF#8), (0x7FFF, 0x90#8)] }
      (0x00#8, 0x00#8, 0x00#8, 0xFE#8, 0x9000#16, ⟨true, false, true, true, false, true⟩)
      7 [(0x100, 0x02#8), (0x101, 0x80#8), (0x1FF, 0xBD#8)] = true := by
  decide +kernel

/-- V46-12 (R269). -/
theorem test_rti_46_12 :
    after
      { base with
        s := 0xFA#8, pc := 0x9000#16, ram := [(0x1FB, 0xCF#8), (0x1FC, 0x34#8), (0x1FD, 0x12#8)],
        cart := prg [(0x1000, 0x40#8)] }
      (0x00#8, 0x00#8, 0x00#8, 0xFD#8, 0x1234#16, ⟨true, true, true, true, true, true⟩)
      6 [(0x1FB, 0xCF#8), (0x1FC, 0x34#8), (0x1FD, 0x12#8)] = true := by
  decide +kernel

/-- V47-01 (R281). -/
theorem test_laxZp_47_01 :
    after { base with ram := [(0x10, 0x80#8), (0x200, 0xA7#8), (0x201, 0x10#8)] }
      (0x80#8, 0x80#8, 0x00#8, 0xFD#8, 0x0202#16, ⟨true, false, false, false, false, false⟩)
      3 [(0x10, 0x80#8), (0x200, 0xA7#8), (0x201, 0x10#8)] = true := by
  decide +kernel

/-- V47-02 (R281). -/
theorem test_laxIzy_47_02 :
    after { base with y := 0x10#8, ram := [(0x20, 0xF8#8), (0x21, 0x03#8), (0x200, 0xB3#8), (0x201, 0x20#8)] }
      (0x00#8, 0x00#8, 0x10#8, 0xFD#8, 0x0202#16, ⟨false, false, false, false, true, false⟩)
      6 [(0x20, 0xF8#8), (0x21, 0x03#8), (0x200, 0xB3#8), (0x201, 0x20#8)] = true := by
  decide +kernel

/-- V47-03 (R282). -/
theorem test_laxImm_47_03 :
    after { base with a := 0x55#8, x := 0x66#8, ram := [(0x200, 0xAB#8)] }
      (0x00#8, 0x00#8, 0x00#8, 0xFD#8, 0x0202#16, ⟨false, false, false, false, true, false⟩)
      2 [(0x200, 0xAB#8)] = true := by
  decide +kernel

/-- V47-04 (R283). -/
theorem test_saxAbs_47_04 :
    after { base with a := 0xF0#8, x := 0x3C#8, pc := 0x0300#16, ram := [(0x300, 0x8F#8), (0x302, 0x02#8)] }
      (0xF0#8, 0x3C#8, 0x00#8, 0xFD#8, 0x0303#16, ⟨false, false, false, false, false, false⟩)
      4 [(0x200, 0x30#8), (0x300, 0x8F#8), (0x302, 0x02#8)] = true := by
  decide +kernel

/-- V47-05 (R283). -/
theorem test_saxZpy_47_05 :
    after { base with a := 0x0F#8, x := 0xFF#8, y := 0x02#8, ram := [(0x200, 0x97#8), (0x201, 0xFF#8)] }
      (0x0F#8, 0xFF#8, 0x02#8, 0xFD#8, 0x0202#16, ⟨false, false, false, false, false, false⟩)
      4 [(0x1, 0x0F#8), (0x200, 0x97#8), (0x201, 0xFF#8)] = true := by
  decide +kernel

/-- V47-06 (R284). -/
theorem test_dcpZp_47_06 :
    after { base with a := 0x40#8, ram := [(0x10, 0x41#8), (0x200, 0xC7#8), (0x201, 0x10#8)] }
      (0x40#8, 0x00#8, 0x00#8, 0xFD#8, 0x0202#16, ⟨false, false, false, false, true, true⟩)
      5 [(0x10, 0x40#8), (0x200, 0xC7#8), (0x201, 0x10#8)] = true := by
  decide +kernel

/-- V47-07 (R284, R280). -/
theorem test_dcpAbsy_47_07 :
    after { base with y := 0x01#8, ram := [(0x200, 0xDB#8), (0x201, 0xFF#8), (0x202, 0x02#8)] }
      (0x00#8, 0x00#8, 0x01#8, 0xFD#8, 0x0203#16, ⟨false, false, false, false, false, false⟩)
      7 [(0x200, 0xDB#8), (0x201, 0xFF#8), (0x202, 0x02#8), (0x300, 0xFF#8)] = true := by
  decide +kernel

/-- V47-08 (R285). -/
theorem test_iscZp_47_08 :
    after
      { base with
        a := 0x05#8, p := ⟨false, false, false, false, false, true⟩,
        ram := [(0x10, 0x03#8), (0x200, 0xE7#8), (0x201, 0x10#8)] }
      (0x01#8, 0x00#8, 0x00#8, 0xFD#8, 0x0202#16, ⟨false, false, false, false, false, true⟩)
      5 [(0x10, 0x04#8), (0x200, 0xE7#8), (0x201, 0x10#8)] = true := by
  decide +kernel

/-- V47-09 (R285, R280). -/
theorem test_iscIzx_47_09 :
    after
      { base with
        a := 0x80#8, p := ⟨false, false, false, false, false, true⟩,
        ram := [(0x11, 0x03#8), (0x200, 0xE3#8), (0x201, 0x10#8)] }
      (0x7F#8, 0x00#8, 0x00#8, 0xFD#8, 0x0202#16, ⟨false, true, false, false, false, true⟩)
      8 [(0x11, 0x03#8), (0x200, 0xE3#8), (0x201, 0x10#8), (0x300, 0x01#8)] = true := by
  decide +kernel

/-- V47-10 (R286). -/
theorem test_sloZp_47_10 :
    after { base with a := 0x01#8, ram := [(0x10, 0x81#8), (0x200, 0x07#8), (0x201, 0x10#8)] }
      (0x03#8, 0x00#8, 0x00#8, 0xFD#8, 0x0202#16, ⟨false, false, false, false, false, true⟩)
      5 [(0x10, 0x02#8), (0x200, 0x07#8), (0x201, 0x10#8)] = true := by
  decide +kernel

/-- V47-11 (R287). -/
theorem test_rlaZp_47_11 :
    after
      { base with
        a := 0xFF#8, p := ⟨false, false, false, false, false, true⟩,
        ram := [(0x10, 0x40#8), (0x200, 0x27#8), (0x201, 0x10#8)] }
      (0x81#8, 0x00#8, 0x00#8, 0xFD#8, 0x0202#16, ⟨true, false, false, false, false, false⟩)
      5 [(0x10, 0x81#8), (0x200, 0x27#8), (0x201, 0x10#8)] = true := by
  decide +kernel

/-- V47-12 (R288). -/
theorem test_sreZp_47_12 :
    after { base with a := 0x80#8, ram := [(0x10, 0x03#8), (0x200, 0x47#8), (0x201, 0x10#8)] }
      (0x81#8, 0x00#8, 0x00#8, 0xFD#8, 0x0202#16, ⟨true, false, false, false, false, true⟩)
      5 [(0x10, 0x01#8), (0x200, 0x47#8), (0x201, 0x10#8)] = true := by
  decide +kernel

/-- V47-13 (R289). -/
theorem test_rraZp_47_13 :
    after { base with a := 0x10#8, ram := [(0x10, 0x03#8), (0x200, 0x67#8), (0x201, 0x10#8)] }
      (0x12#8, 0x00#8, 0x00#8, 0xFD#8, 0x0202#16, ⟨false, false, false, false, false, false⟩)
      5 [(0x10, 0x01#8), (0x200, 0x67#8), (0x201, 0x10#8)] = true := by
  decide +kernel

/-- V47-15 (R290). -/
theorem test_alrImm_47_15 :
    after { base with a := 0xFF#8, ram := [(0x200, 0x4B#8), (0x201, 0x03#8)] }
      (0x01#8, 0x00#8, 0x00#8, 0xFD#8, 0x0202#16, ⟨false, false, false, false, false, true⟩)
      2 [(0x200, 0x4B#8), (0x201, 0x03#8)] = true := by
  decide +kernel

/-- V47-16 (R291). -/
theorem test_ancImm0B_47_16 :
    after { base with a := 0xF0#8, ram := [(0x200, 0x0B#8), (0x201, 0x80#8)] }
      (0x80#8, 0x00#8, 0x00#8, 0xFD#8, 0x0202#16, ⟨true, false, false, false, false, true⟩)
      2 [(0x200, 0x0B#8), (0x201, 0x80#8)] = true := by
  decide +kernel

/-- V47-17 (R291). -/
theorem test_ancImm2B_47_17 :
    after
      { base with
        a := 0xF0#8, p := ⟨false, false, false, false, false, true⟩,
        ram := [(0x200, 0x2B#8), (0x201, 0x7F#8)] }
      (0x70#8, 0x00#8, 0x00#8, 0xFD#8, 0x0202#16, ⟨false, false, false, false, false, false⟩)
      2 [(0x200, 0x2B#8), (0x201, 0x7F#8)] = true := by
  decide +kernel

/-- V47-18 (R292). -/
theorem test_arrImm_47_18 :
    after
      { base with
        a := 0xFF#8, p := ⟨false, false, false, false, false, true⟩,
        ram := [(0x200, 0x6B#8), (0x201, 0xFF#8)] }
      (0xFF#8, 0x00#8, 0x00#8, 0xFD#8, 0x0202#16, ⟨true, false, false, false, false, true⟩)
      2 [(0x200, 0x6B#8), (0x201, 0xFF#8)] = true := by
  decide +kernel

/-- V47-19 (R292). -/
theorem test_arrImm_47_19 :
    after { base with a := 0xFF#8, ram := [(0x200, 0x6B#8), (0x201, 0x80#8)] }
      (0x40#8, 0x00#8, 0x00#8, 0xFD#8, 0x0202#16, ⟨false, true, false, false, false, true⟩)
      2 [(0x200, 0x6B#8), (0x201, 0x80#8)] = true := by
  decide +kernel

/-- V47-21 (R293). -/
theorem test_axsImm_47_21 :
    after { base with a := 0xF0#8, x := 0x3C#8, ram := [(0x200, 0xCB#8), (0x201, 0x10#8)] }
      (0xF0#8, 0x20#8, 0x00#8, 0xFD#8, 0x0202#16, ⟨false, false, false, false, false, true⟩)
      2 [(0x200, 0xCB#8), (0x201, 0x10#8)] = true := by
  decide +kernel

/-- V47-23 (R294). -/
theorem test_sbcImmEB_47_23 :
    after
      { base with
        a := 0x05#8, p := ⟨false, false, false, false, false, true⟩,
        ram := [(0x200, 0xEB#8), (0x201, 0x03#8)] }
      (0x02#8, 0x00#8, 0x00#8, 0xFD#8, 0x0202#16, ⟨false, false, false, false, false, true⟩)
      2 [(0x200, 0xEB#8), (0x201, 0x03#8)] = true := by
  decide +kernel

/-- V47-24 (R295). -/
theorem test_nopImp1A_47_24 :
    after { base with ram := [(0x200, 0x1A#8)] }
      (0x00#8, 0x00#8, 0x00#8, 0xFD#8, 0x0201#16, ⟨false, false, false, false, false, false⟩)
      2 [(0x200, 0x1A#8)] = true := by
  decide +kernel

/-- V47-25 (R295). -/
theorem test_nopImm80_47_25 :
    after { base with ram := [(0x200, 0x80#8), (0x201, 0x55#8)] }
      (0x00#8, 0x00#8, 0x00#8, 0xFD#8, 0x0202#16, ⟨false, false, false, false, false, false⟩)
      2 [(0x200, 0x80#8), (0x201, 0x55#8)] = true := by
  decide +kernel

/-- V47-26 (R295). -/
theorem test_nopZp04_47_26 :
    after { base with pc := 0x8000#16, cart := prg [(0x0, 0x04#8), (0x1, 0x44#8)] }
      (0x00#8, 0x00#8, 0x00#8, 0xFD#8, 0x8002#16, ⟨false, false, false, false, false, false⟩)
      3 [] = true := by
  decide +kernel

/-- V47-27 (R295). -/
theorem test_nopZpx14_47_27 :
    after { base with x := 0x20#8, ram := [(0x200, 0x14#8), (0x201, 0xF0#8)] }
      (0x00#8, 0x20#8, 0x00#8, 0xFD#8, 0x0202#16, ⟨false, false, false, false, false, false⟩)
      4 [(0x200, 0x14#8), (0x201, 0xF0#8)] = true := by
  decide +kernel

/-- V47-28 (R295). -/
theorem test_nopAbs_47_28 :
    after { base with ram := [(0x200, 0x0C#8), (0x202, 0x03#8)] }
      (0x00#8, 0x00#8, 0x00#8, 0xFD#8, 0x0203#16, ⟨false, false, false, false, false, false⟩)
      4 [(0x200, 0x0C#8), (0x202, 0x03#8)] = true := by
  decide +kernel

/-- V47-29 (R295). -/
theorem test_nopAbsx1C_47_29 :
    after { base with x := 0x20#8, ram := [(0x200, 0x1C#8), (0x201, 0xF0#8), (0x202, 0x02#8)] }
      (0x00#8, 0x20#8, 0x00#8, 0xFD#8, 0x0203#16, ⟨false, false, false, false, false, false⟩)
      5 [(0x200, 0x1C#8), (0x201, 0xF0#8), (0x202, 0x02#8)] = true := by
  decide +kernel

/-- V47-30 (R296, R297). -/
theorem test_xaaImm_47_30 :
    after { base with a := 0x12#8, x := 0x34#8, ram := [(0x200, 0x8B#8), (0x201, 0x55#8)] }
      (0x12#8, 0x34#8, 0x00#8, 0xFD#8, 0x0202#16, ⟨false, false, false, false, false, false⟩)
      2 [(0x200, 0x8B#8), (0x201, 0x55#8)] = true := by
  decide +kernel

/-- V47-31 (R296, R298). -/
theorem test_lasAbsy_47_31 :
    after { base with pc := 0x0300#16, ram := [(0x300, 0xBB#8), (0x302, 0x02#8)] }
      (0x00#8, 0x00#8, 0x00#8, 0xFD#8, 0x0303#16, ⟨false, false, false, false, false, false⟩)
      4 [(0x300, 0xBB#8), (0x302, 0x02#8)] = true := by
  decide +kernel

/-- V47-32 (R296, R299). -/
theorem test_ahxAbsy_47_32 :
    after { base with a := 0xFF#8, x := 0xFF#8, y := 0x10#8, ram := [(0x200, 0x9F#8), (0x202, 0x03#8)] }
      (0xFF#8, 0xFF#8, 0x10#8, 0xFD#8, 0x0203#16, ⟨false, false, false, false, false, false⟩)
      5 [(0x200, 0x9F#8), (0x202, 0x03#8)] = true := by
  decide +kernel

/-- V47-33 (R296, R299). -/
theorem test_ahxIzy_47_33 :
    after
      { base with
        a := 0xFF#8, x := 0xFF#8, y := 0x10#8,
        ram := [(0x20, 0xF8#8), (0x21, 0x03#8), (0x200, 0x93#8), (0x201, 0x20#8)] }
      (0xFF#8, 0xFF#8, 0x10#8, 0xFD#8, 0x0202#16, ⟨false, false, false, false, false, false⟩)
      6 [(0x20, 0xF8#8), (0x21, 0x03#8), (0x200, 0x93#8), (0x201, 0x20#8)] = true := by
  decide +kernel

/-- V47-34 (R296, R300). -/
theorem test_tasAbsy_47_34 :
    after { base with a := 0xFF#8, x := 0x0F#8, ram := [(0x200, 0x9B#8), (0x202, 0x03#8)] }
      (0xFF#8, 0x0F#8, 0x00#8, 0xFD#8, 0x0203#16, ⟨false, false, false, false, false, false⟩)
      5 [(0x200, 0x9B#8), (0x202, 0x03#8)] = true := by
  decide +kernel

/-- V47-35 (R296, R301). -/
theorem test_shyAbsx_47_35 :
    after { base with x := 0x01#8, y := 0x77#8, ram := [(0x200, 0x9C#8), (0x202, 0x03#8)] }
      (0x00#8, 0x01#8, 0x77#8, 0xFD#8, 0x0203#16, ⟨false, false, false, false, false, false⟩)
      5 [(0x200, 0x9C#8), (0x202, 0x03#8)] = true := by
  decide +kernel

/-- V47-36 (R296, R302). -/
theorem test_shxAbsy_47_36 :
    after { base with x := 0x77#8, y := 0x01#8, ram := [(0x200, 0x9E#8), (0x202, 0x03#8)] }
      (0x00#8, 0x77#8, 0x01#8, 0xFD#8, 0x0203#16, ⟨false, false, false, false, false, false⟩)
      5 [(0x200, 0x9E#8), (0x202, 0x03#8)] = true := by
  decide +kernel

/-- V47-37 (R303). -/
theorem test_jam02_47_37 :
    after { base with pc := 0x8000#16, cart := prg [(0x0, 0x02#8)] }
      (0x00#8, 0x00#8, 0x00#8, 0xFD#8, 0x8001#16, ⟨false, false, false, false, false, false⟩)
      2 [] = true := by
  decide +kernel

/-- V20-04 (R66). -/
theorem test_staAbs_20_04 :
    after { base with a := 0x3C#8, ram := [(0x200, 0x8D#8), (0x201, 0x05#8), (0x202, 0x18#8)] }
      (0x3C#8, 0x00#8, 0x00#8, 0xFD#8, 0x0203#16, ⟨false, false, false, false, false, false⟩)
      4 [(0x5, 0x3C#8), (0x200, 0x8D#8), (0x201, 0x05#8), (0x202, 0x18#8)] = true := by
  decide +kernel

/-- V20-05 (R66). -/
theorem test_ldaAbs_20_05 :
    after { base with ram := [(0x5, 0xC3#8), (0x200, 0xAD#8), (0x201, 0x05#8), (0x202, 0x08#8)] }
      (0xC3#8, 0x00#8, 0x00#8, 0xFD#8, 0x0203#16, ⟨true, false, false, false, false, false⟩)
      4 [(0x5, 0xC3#8), (0x200, 0xAD#8), (0x201, 0x05#8), (0x202, 0x08#8)] = true := by
  decide +kernel

/-! ## Interrupts, reset, stall (60_exceptions.md, 70_reset_and_hazards.md) -/

/-- The vectors of section 2's interrupt table: 0xFFFA shows 0xA000, 0xFFFE 0xB000; and 0xFFFC shows 0x8000. -/
def vectors : Memory := [(0x7FFB, 0xA0#8), (0x7FFD, 0x80#8), (0x7FFF, 0xB0#8)]

/-- The base state in PRG-ROM at 0x8000 under the interrupt table's vectors. -/
def base8000 : State := { base with pc := 0x8000#16, cart := prg vectors }

/-- The same, with NMI enabled at the PPU and vblank due in the third cycle: NMI_LINE = 1 from stamp 2. -/
def nmiFromStamp2 : State :=
  { base8000 with ppu := { Ppu.powerOn with ctrl := 0x80#8, scanline := 240, dot := 336 } }

/-- V60-01: a pending NMI is served whatever I is; the pushed image has B = 0. -/
theorem test_nmi_60_01 :
    after { base8000 with nmiPending := true, p := ⟨false, false, false, true, false, true⟩ }
      (0x00#8, 0x00#8, 0x00#8, 0xFA#8, 0xA000#16, ⟨false, false, false, true, false, true⟩)
      7 [(0x1FB, 0x25#8), (0x1FD, 0x80#8)] = true := by
  decide +kernel

/-- V60-02: the sampled IRQ is served with I = 0. -/
theorem test_irq_60_02 :
    after
      { base8000 with
        irqSample := true, apu := { Apu.powerOn with frameIrq := true },
        p := ⟨true, false, false, false, false, false⟩ }
      (0x00#8, 0x00#8, 0x00#8, 0xFA#8, 0xB000#16, ⟨true, false, false, true, false, false⟩)
      7 [(0x1FB, 0xA0#8), (0x1FD, 0x80#8)] = true := by
  decide +kernel

/-- V60-03: with I = 1 the IRQ waits and the NOP runs. -/
theorem test_irq_masked_60_03 :
    after
      { base8000 with
        irqSample := true, cart := prg ((0x0000, 0xEA#8) :: vectors),
        apu := { Apu.powerOn with frameIrq := true }, p := ⟨false, false, false, true, false, false⟩ }
      (0x00#8, 0x00#8, 0x00#8, 0xFD#8, 0x8001#16, ⟨false, false, false, true, false, false⟩) 2 [] = true := by
  decide +kernel

/-- V60-07: an NMI edge at stamp 2 takes the BRK's vector; the pushed image keeps B = 1. -/
theorem test_brk_hijacked_60_07 :
    after { nmiFromStamp2 with cart := prg ((0x0001, 0xFF#8) :: vectors) }
      (0x00#8, 0x00#8, 0x00#8, 0xFA#8, 0xA000#16, ⟨false, false, false, true, false, false⟩)
      7 [(0x1FB, 0x30#8), (0x1FC, 0x02#8), (0x1FD, 0x80#8)] = true := by
  decide +kernel

/-- V60-08: an NMI edge no later than cycle 4 takes the IRQ's vector; the pushed image keeps B = 0. -/
theorem test_irq_hijacked_60_08 :
    after { nmiFromStamp2 with irqSample := true }
      (0x00#8, 0x00#8, 0x00#8, 0xFA#8, 0xA000#16, ⟨false, false, false, true, false, false⟩)
      7 [(0x1FB, 0x20#8), (0x1FD, 0x80#8)] = true := by
  decide +kernel

/-- V70-01: reset keeps A, X, Y and the flags but I, drops the stall and the pending NMI, and stores nothing. -/
theorem test_reset_70_01 :
    nextIs
      { base8000 with
        a := 0x12#8, x := 0x34#8, y := 0x56#8, s := 0x40#8, pc := 0x0345#16, cycles := 1000#64,
        p := ⟨true, false, true, false, false, true⟩, resetReq := true, nmiPending := true, stall := 300,
        ram := [(0x345, 0xEA#8)] }
      (fun t => t.regs == (0x12#8, 0x34#8, 0x56#8, 0xFD#8, 0x8000#16, ⟨true, false, true, true, false, true⟩) &&
        t.cycles == 1007#64 && !t.nmiPending && t.stall == 0 && !t.resetReq && t.ram == [(0x345, 0xEA#8)]) = true := by
  decide +kernel

/-- Table 10-B and section 3: the first step after power-on is the reset sequence, and the step after it is at the reset
vector with 7 cycles counted and 21 dots run; `State.reset` is that state. -/
theorem test_power_on_reset :
    nextIs (State.powerOn PowerOn.zero Cart.blank)
      (fun t => t.regs == State.reset.regs && t.cycles == 7#64 && t.ppu == State.reset.ppu && t.ram == [] &&
        t.pads == State.reset.pads && t.cart == State.reset.cart && t.openBus == 0#8 && !t.nmiPending &&
        !t.nmiPrev && t.stall == 0 && !t.resetReq && t.free == State.reset.free) = true := by
  decide +kernel

/-- A word placed by `withFetchWord` right after reset is the instruction the next step runs: LDA #$80. -/
theorem test_first_instruction :
    nextIs (State.reset.withFetchWord 16 0x80A9) (fun t => t.a == 0x80#8 && t.p.n && !t.p.z) = true := by
  decide +kernel

/-- V60-19: INC of 0x4014 writes twice and starts two OAM DMAs, 513 + 514 stall cycles. -/
theorem test_inc_4014_60_19 :
    nextIs { base with ram := [(0x200, 0xEE#8), (0x201, 0x14#8), (0x202, 0x40#8)] }
      (fun t => t.stall == 1027 && t.pc == 0x0203#16 && t.cycles == 6#64 &&
        t.dma == [.oam 0x40#8 1 0 0#8, .oam 0x41#8 2 0 0#8]) = true := by
  decide +kernel

/-- V60-15: the write at an odd stamp starts a DMA of 514 cycles, one at an even stamp (V60-14) one of 513. -/
theorem test_sta_4014_60_14 :
    nextIs { base with a := 3#8, ram := [(0x200, 0x8D#8), (0x201, 0x14#8), (0x202, 0x40#8)] }
        (fun t => t.stall == 514) = true ∧
      nextIs { base with a := 3#8, cycles := 1#64, ram := [(0x200, 0x8D#8), (0x201, 0x14#8), (0x202, 0x40#8)] }
        (fun t => t.stall == 513) = true := by
  decide +kernel

/-- Rules R296 and R343: under `refuse` a JAM opcode is fetched and the core is stuck; the next step is refused. -/
theorem test_jam_refused :
    nextIs { base with params := ⟨.nop, .refuse, .nothing⟩, ram := [(0x200, 0x02#8)] }
      (fun t => t.stuck == some 0x02#8 && t.pc == 0x0201#16 && t.cycles == 1#64 &&
        match step t with | .refused r => r == .opcodeRefused 0x02#8 | _ => false) = true := by
  decide +kernel

/-! ## Device accesses, worked by hand from the rules -/

/-- Rules R350, R351: PPUSTATUS gives its three flags over the open-bus bits, then vblank and `w` are clear. -/
theorem test_ppustatus_read :
    (let s := { base with openBus := 0xFF#8, ppu := { Ppu.powerOn with vblank := true, w := true } }
     let r := busRead 0x3FFA#16 s
     r.1 == 0x9F#8 && !r.2.ppu.vblank && !r.2.ppu.w) = true := by
  decide +kernel

/-- Rule R352: 0x3F10 is a mirror of 0x3F00. -/
theorem test_palette_mirror :
    (let s := writeMany 0x2006#16 [0x3F#8, 0x10#8] base
     let t := writeMany 0x2006#16 [0x3F#8, 0x00#8] (busWrite 0x2007#16 0x2C#8 s)
     (busRead 0x2007#16 t).1 == 0x2C#8) = true := by
  decide +kernel

/-- Rule R350: the first PPUDATA read of a nametable byte gives the old buffer, the second the byte. -/
theorem test_ppudata_buffer :
    (let t := busWrite 0x2007#16 0x77#8 (writeMany 0x2006#16 [0x20#8, 0x05#8] base)
     let s := writeMany 0x2006#16 [0x20#8, 0x05#8] t
     (readMany 0x2007#16 2 s).1 == [0x00#8, 0x77#8]) = true := by
  decide +kernel

/-- Rule R363: eight buttons in the order A to Right, then ones; the open-bus bits 7 to 5 stand above. -/
theorem test_controller_order :
    (let s := { base with pads := { Pads.powerOn with input1 := 0x05#8 } }
     (readMany 0x4016#16 9 (writeMany 0x4016#16 [1#8, 0#8] s)).1 ==
       [1#8, 0#8, 1#8, 0#8, 0#8, 0#8, 0#8, 0#8, 1#8]) = true := by
  decide +kernel

/-- Rule R373: five writes, lowest bit first, load the PRG register. -/
theorem test_mmc1_loads :
    ([1, 0, 1, 0, 0].zip [0, 2, 4, 6, 8]).foldl
        (fun m q => m.cpuWrite 0xE000 (BitVec.ofNat 8 q.1) (BitVec.ofNat 64 q.2)) Mmc1.powerOn =
      { Mmc1.powerOn with prg := 0x05#5, lastWrite := some 8#64 } := by
  decide +kernel

/-- Rules R373, R374, R401 and decision D40: whatever registers a cartridge is handed over with, MMC1 powers on with
control 0x0C, UxROM with bank 0. -/
theorem test_mapper_power_on :
    (State.powerOn PowerOn.zero { Cart.blank with mapper := .mmc1 { Mmc1.powerOn with control := 0#5, count := 3 } }).cart.mapper =
        .mmc1 { Mmc1.powerOn with control := 0x0C#5, count := 0 } ∧
      (State.powerOn PowerOn.zero { Cart.blank with mapper := .uxrom 5#8 }).cart.mapper = .uxrom 0#8 := by
  decide +kernel

/-- Rule R376: with latch 1 the second clock raises the IRQ. -/
theorem test_mmc3_counts :
    (let m : Mmc3 := { Mmc3.powerOn with latch := 1#8, enabled := true }
     let k := m.sampleA12 true
     let n := (k.sampleA12 false).sampleA12 true
     k.counter == 1#8 && !k.pending && n.counter == 0#8 && n.pending) = true := by
  decide +kernel

/-! ## Witnesses: states and operands that meet each obligation's hypotheses -/

theorem witness_EncodeUndoesDecode : decode [0xA9#8, 0x34#8, 0xFF#8] = .ok (.ldaImm 0x34#8, [0xFF#8]) := by
  decide +kernel

theorem witness_DecodingIsTotal :
    opLength 0x4C#8 ≤ [0x34#8, 0x12#8].length + 1 ∧ [0x34#8].length + 1 < opLength 0x4C#8 := by
  decide +kernel

/-- An instruction at 0xFFFF whose operand byte lies at 0x0000, and one in RAM. -/
theorem witness_StepRunsDecodedInstruction :
    (let s := { base with pc := 0xFFFF#16, ram := [(0, 0x80#8)], cart := prg [(0x7FFF, 0xA9#8)] }
     s.atInstruction = true ∧ refuses s.params (opcodeOf (.ldaImm 0x80#8)) = false ∧
       ∀ (k : Nat) (h : k < (encode (.ldaImm 0x80#8)).length),
         memByte s (s.pc + BitVec.ofNat 16 k) = some (encode (.ldaImm 0x80#8))[k]) ∧
    (let s := { base with ram := [(0x200, 0x20#8), (0x201, 0x34#8), (0x202, 0x12#8)] }
     s.atInstruction = true ∧ refuses s.params (opcodeOf (.jsr 0x1234#16)) = false ∧
       ∀ (k : Nat) (h : k < (encode (.jsr 0x1234#16)).length),
         memByte s (s.pc + BitVec.ofNat 16 k) = some (encode (.jsr 0x1234#16))[k]) := by
  decide +kernel

theorem witness_StepFollowsPriorities :
    ({ base with resetReq := true } : State).resetReq = true ∧
    (let s := { base with stall := 1 }; s.resetReq = false ∧ s.stuck = none ∧ 0 < s.stall) ∧
    (let s := { base with nmiPending := true }
     s.resetReq = false ∧ s.stuck = none ∧ s.stall = 0 ∧ s.nmiPending = true) ∧
    (let s := { base with irqSample := true }
     s.resetReq = false ∧ s.stuck = none ∧ s.stall = 0 ∧ s.nmiPending = false ∧ s.irqSample = true ∧ s.p.i = false) ∧
    (let s := { base with irqSample := true, p := { base.p with i := true } }
     s.resetReq = false ∧ s.stuck = none ∧ s.stall = 0 ∧ s.nmiPending = false ∧ s.p.i = true) ∧
    (base.resetReq = false ∧ base.stuck = none ∧ base.stall = 0 ∧ base.nmiPending = false ∧
      base.irqSample = false) := by
  decide +kernel

/-- A warm reset with the default DEVICE_RESET, the reset of power-on whatever the parameter is, and a warm reset with
another DEVICE_RESET. -/
theorem witness_ResetSequenceSetsSIAndPc :
    (let s := { base8000 with resetReq := true, stuck := some 0x02#8, nmiPending := true, stall := 3 }
     s.resetReq = true ∧ s.coldReset = false ∧ s.params.deviceReset = .nothing ∧ VectorShows s 0xFFFC#16 0x8000#16 ∧
       s.apu.dmcActive = false ∧ s.ppu.ctrl.getLsbD 7 = false) ∧
    (let s := State.powerOn { PowerOn.zero with params := ⟨.nop, .nop, .other⟩ } (prg vectors)
     s.resetReq = true ∧ s.coldReset = true ∧ VectorShows s 0xFFFC#16 0x8000#16 ∧ s.apu.dmcActive = false ∧
       s.ppu.ctrl.getLsbD 7 = false) ∧
    ({ base8000 with resetReq := true, params := ⟨.nop, .nop, .other⟩ } : State).resetReq = true := by
  unfold VectorShows; decide +kernel

/-- The IRQ entry with no NMI by cycle 4, and one with it. -/
theorem witness_IrqEntrySavesPcAndStatus :
    (let s := { base8000 with irqSample := true }
     s.wf = true ∧ s.resetReq = false ∧ s.stuck = none ∧ s.stall = 0 ∧ s.nmiPending = false ∧ s.irqSample = true ∧
       s.p.i = false ∧
       (accesses [.read s.pc, .read s.pc, .write (stackAddr s.s) (hi s.pc), .write (stackAddr (s.s - 1#8)) (lo s.pc)]
         s).nmiPending = false ∧
       VectorShows s 0xFFFE#16 0xB000#16) ∧
    (let s := { nmiFromStamp2 with irqSample := true }
     s.wf = true ∧ s.resetReq = false ∧ s.stuck = none ∧ s.stall = 0 ∧ s.nmiPending = false ∧ s.irqSample = true ∧
       s.p.i = false ∧
       (accesses [.read s.pc, .read s.pc, .write (stackAddr s.s) (hi s.pc), .write (stackAddr (s.s - 1#8)) (lo s.pc)]
         s).nmiPending = true ∧
       VectorShows s 0xFFFA#16 0xA000#16) := by
  unfold VectorShows; decide +kernel

theorem witness_NmiEntrySavesPcAndStatus :
    let s := { base8000 with nmiPending := true }
    s.wf = true ∧ s.resetReq = false ∧ s.stuck = none ∧ s.stall = 0 ∧ s.nmiPending = true ∧
      VectorShows s 0xFFFA#16 0xA000#16 ∧ s.ppu.ctrl.getLsbD 7 = false := by
  unfold VectorShows; decide +kernel

/-- BRK and IRQ entries: with an NMI pending after the pushes of PC, and without. -/
theorem witness_BrkEntersWithBSet :
    (let s := base8000
     s.wf = true ∧
       (accesses [.write (stackAddr s.s) (hi s.pc), .write (stackAddr (s.s - 1#8)) (lo s.pc)] s).nmiPending = false ∧
       VectorShows s 0xFFFE#16 0xB000#16) ∧
    (let s := { base8000 with nmiPending := true }
     s.wf = true ∧
       (accesses [.write (stackAddr s.s) (hi s.pc), .write (stackAddr (s.s - 1#8)) (lo s.pc)] s).nmiPending = true ∧
       VectorShows s 0xFFFA#16 0xA000#16) := by
  unfold VectorShows; decide +kernel

theorem witness_HijackTakesNmiVectorOnce :
    base8000.wf = true ∧ (pushPc base8000).nmiPending = false ∧ VectorShows base8000 0xFFFE#16 0xB000#16 ∧
    (let s := { base8000 with nmiPending := true }
     s.wf = true ∧ (pushPc s).nmiPending = true ∧ VectorShows s 0xFFFA#16 0xA000#16) := by
  unfold VectorShows; decide +kernel

theorem witness_StallCycleOnlyStalls :
    let s := { base with stall := 1, nmiPending := true }
    s.resetReq = false ∧ s.stuck = none ∧ 0 < s.stall ∧ s.nmiPending = true ∧ s.dma = [] := by
  decide +kernel

theorem witness_WriteTo4014StartsOamDma :
    base.apu.dmcActive = false ∧ (0x4013#16) ≠ 0x4014#16 ∧ (0x4015#16) ≠ 0x4014#16 := by
  decide +kernel

/-- Both alignments; the page at 0x0300 shows RAM. -/
theorem witness_OamDmaCopiesPage :
    (let s := { base with stall := 513, dma := [.oam 0x03#8 1 0 0#8], ram := [(0x300, 0x5A#8)] }
     s.wf = true ∧ s.resetReq = false ∧ s.stuck = none ∧ s.apu.dmcActive = false ∧
       s.dma = [.oam 0x03#8 1 0 0#8] ∧ s.stall = 1 + 512 ∧
       ∀ i : Byte, memByte s (mkWord 0x03#8 i) = some (if i = 0#8 then 0x5A#8 else 0#8)) ∧
    (let s := { base with stall := 514, dma := [.oam 0x03#8 2 0 0#8], ram := [(0x3FF, 0xA5#8)] }
     s.wf = true ∧ s.resetReq = false ∧ s.stuck = none ∧ s.apu.dmcActive = false ∧
       s.dma = [.oam 0x03#8 2 0 0#8] ∧ s.stall = 2 + 512 ∧
       ∀ i : Byte, memByte s (mkWord 0x03#8 i) = some (if i = 0xFF#8 then 0xA5#8 else 0#8)) := by
  decide +kernel

theorem witness_DmcFetchReadsOnce :
    let s := { base8000 with stall := 4, dma := [.dmc 0xFFFD#16 0] }
    s.resetReq = false ∧ s.stuck = none ∧ s.apu.dmcActive = false ∧ s.dma = [.dmc 0xFFFD#16 0] ∧ s.stall = 4 ∧
      memByte s 0xFFFD#16 = some 0x80#8 := by
  decide +kernel

/-- Scanline 0 at its first and last dot, with k in the frame; and the states of the other clauses. -/
theorem witness_DotsDriveVblankAndNmi :
    (let p := Ppu.powerOn; p.scanline = 0 ∧ p.dot < 341 ∧ 89341 < 262 * 341 - p.dot) ∧
    (let p := { Ppu.powerOn with dot := 340 }; p.scanline = 0 ∧ p.dot < 341 ∧ 89001 < 262 * 341 - p.dot) ∧
    (let s := { base with ppu := { Ppu.powerOn with vblank := true, scanline := 260, dot := 339 } }
     s.ppu.vblank = true ∧ s.ppu.cancelVblank = false ∧ s.nmiPrev = false ∧ (0x80#8).getLsbD 7 = true ∧
       s.ppu.scanline = 260 ∧ s.ppu.dot < 340 ∧ (0x3FF8#16).toNat % 8 = 0 ∧ 0x2000 ≤ (0x2000#16).toNat ∧
       (0x3FF8#16).toNat < 0x4000) ∧
    (let s := { base with ppu := { Ppu.powerOn with scanline := 240, dot := 340 } }
     s.ppu.vblankSetThisCycle = true ∧ (0x2002#16).toNat % 8 = 2 ∧ (0x3FFA#16).toNat % 8 = 2 ∧
       (0x3FFA#16).toNat < 0x4000) ∧
    (let p := { Ppu.powerOn with scanline := 241, dot := 1 }; p.scanline = 241 ∧ p.dot = 1) ∧
    (let p := { Ppu.powerOn with scanline := 261, dot := 1 }; p.scanline = 261 ∧ p.dot = 1) := by
  decide +kernel

theorem witness_PpuStatusReadClearsVblankAndW :
    0x2000 ≤ (0x2002#16).toNat ∧ (0x2002#16).toNat % 8 = 2 ∧ (0x3FFA#16).toNat < 0x4000 ∧
      (0x3FFA#16).toNat % 8 = 2 := by
  decide +kernel

/-- An address of each register at an end of the range, with either value of `w`. -/
theorem witness_PpuRegisterWritesSetTheirFields :
    (0x2000#16).toNat % 8 = 0 ∧ 0x2000 ≤ (0x2000#16).toNat ∧ (0x2001#16).toNat % 8 = 1 ∧ (0x3FF9#16).toNat % 8 = 1 ∧
      (0x2003#16).toNat % 8 = 3 ∧ (0x3FFB#16).toNat % 8 = 3 ∧ (0x2004#16).toNat % 8 = 4 ∧
      (0x3FFC#16).toNat % 8 = 4 ∧ (0x3FFD#16).toNat % 8 = 5 ∧ (0x3FFE#16).toNat % 8 = 6 ∧
      (0x3FFE#16).toNat % 8 ≠ 7 ∧ (0x3FFE#16).toNat < 0x4000 ∧ base.wf = true ∧ base.ppu.w = false ∧
      (busWrite 0x2005#16 0#8 base).ppu.w = true := by
  decide +kernel

/-- `v` at the ends of each range. -/
theorem witness_PpuDataIsBufferedAndAdvancesV :
    (0x2007#16).toNat % 8 = 7 ∧ (0x3FFF#16).toNat % 8 = 7 ∧ (0x3FFF#16).toNat < 0x4000 ∧
      (∀ n ∈ [0x0000, 0x1FFF, 0x5FFF], (BitVec.ofNat 15 n).toNat % 0x4000 < 0x2000) ∧
      (∀ n ∈ [0x2000, 0x3EFF], let v := (BitVec.ofNat 15 n).toNat % 0x4000; 0x2000 ≤ v ∧ v < 0x3F00) ∧
      (∀ n ∈ [0x3F00, 0x3FFF, 0x7FFF], 0x3F00 ≤ (BitVec.ofNat 15 n).toNat % 0x4000) := by
  decide +kernel

theorem witness_PaletteMirrorsReadBack :
    base.wf = true ∧ 0x3F00 ≤ (0x3F10#15).toNat % 0x4000 ∧ 0x3F00 ≤ (0x3F00#15).toNat % 0x4000 ∧
      0x3F00 ≤ (0x7FFF#15).toNat % 0x4000 := by
  decide +kernel

theorem witness_ControllersShiftOutEightButtons :
    (0x01#8).getLsbD 0 = true ∧ (0xFF#8).getLsbD 0 = true ∧ (0x00#8).getLsbD 0 = false ∧
      (0xFE#8).getLsbD 0 = false := by
  decide +kernel

/-- An address at each end of every clause's range, and a channel that loads its length. -/
theorem witness_ApuRegistersReadAndWrite :
    0x4000 ≤ (0x4000#16).toNat ∧ (0x4000#16).toNat ≤ 0x4013 ∧ 0x4000 ≤ (0x4013#16).toNat ∧
      (0x4013#16).toNat ≤ 0x4013 ∧ 0x4000 ≤ (0x4014#16).toNat ∧ (0x4014#16).toNat ≤ 0x4014 ∧
      (∀ k ∈ [0, 1, 2, 3], (BitVec.ofNat 16 (0x4003 + 4 * k)).toNat = 0x4003 + 4 * k ∧
        (busWrite 0x4015#16 0x0F#8 base).apu.enable.getLsbD k = true) := by
  decide +kernel

theorem witness_ApuIrqsAreLevels :
    0x4000 ≤ (0x4000#16).toNat ∧ (0x4000#16).toNat ≤ 0x4015 ∧ 0x4000 ≤ (0x4015#16).toNat ∧
      (0x4015#16).toNat ≤ 0x4015 := by
  decide +kernel

/-- An address at each end of every clause's range. -/
theorem witness_OpenBusAndRamMirrors :
    (∀ n ∈ [0x2000, 0x3FFE], let a := BitVec.ofNat 16 n
        0x2000 ≤ a.toNat ∧ a.toNat < 0x4000 ∧ a.toNat % 8 ∈ [0, 1, 3, 5, 6]) ∧
      (∀ n ∈ [0x4000, 0x4014], let a := BitVec.ofNat 16 n; 0x4000 ≤ a.toNat ∧ a.toNat ≤ 0x4014) ∧
      (∀ n ∈ [0x4018, 0x5FFF], let a := BitVec.ofNat 16 n; 0x4018 ≤ a.toNat ∧ a.toNat < 0x6000) ∧
      (∀ n ∈ [0x6000, 0x7FFF], let a := BitVec.ofNat 16 n
        0x6000 ≤ a.toNat ∧ a.toNat < 0x8000 ∧ base.cart.prgRamPresent = false) ∧
      (∀ n ∈ [0x4018, 0x401F], let a := BitVec.ofNat 16 n; 0x4018 ≤ a.toNat ∧ a.toNat < 0x4020) ∧
      (∀ n ∈ [0x0000, 0x1FFF], let a := BitVec.ofNat 16 n; a.toNat < 0x2000) ∧ base.wf = true := by
  decide +kernel

/-- Each mapper of the statement, and an address at each end of every range. -/
theorem witness_BanksAtPowerOnAndAfterWrites :
    0 < base.cart.prgBanks ∧ base.cart.mapper = .nrom ∧ base.cart.prgBanks ≤ 2 ∧
      ({ Cart.blank with mapper := .uxrom 5#8 } : Cart).mapper = .uxrom 5#8 ∧
      ({ Cart.blank with mapper := .cnrom 3#2 } : Cart).mapper = .cnrom 3#2 ∧
      ({ Cart.blank with mapper := .mmc1 { Mmc1.powerOn with control := 0#5 } } : Cart).mapper =
        .mmc1 { Mmc1.powerOn with control := 0#5 } ∧
      ({ Cart.blank with mapper := .mmc3 { Mmc3.powerOn with pending := true } } : Cart).mapper =
        .mmc3 { Mmc3.powerOn with pending := true } ∧
      (∀ n ∈ [0x8000, 0xBFFF], let a := BitVec.ofNat 16 n; 0x8000 ≤ a.toNat ∧ a.toNat < 0xC000) ∧
      (∀ n ∈ [0xC000, 0xFFFF], let a := BitVec.ofNat 16 n; 0x8000 ≤ a.toNat ∧ 0xC000 ≤ a.toNat) ∧
      (∀ n ∈ [0xE000, 0xFFFF], let a := BitVec.ofNat 16 n; 0xE000 ≤ a.toNat) ∧ 0x1FFF < 0x2000 := by
  decide +kernel

theorem witness_Mmc1RegistersSelectBanks :
    (let st : Fin 5 → BitVec 64 := fun k => BitVec.ofNat 64 (2 * k.val)
     let b : Fin 5 → Nat := fun k => if k = 4 then 0xFFFF else 0x8000
     Mmc1.powerOn.count = 0 ∧ Mmc1.powerOn.shift = 0#5 ∧ Mmc1.powerOn.lastWrite ≠ some (st 0 - 1#64) ∧
       (∀ k : Fin 4, st k.castSucc ≠ st k.succ - 1#64) ∧ (∀ k, 0x8000 ≤ b k ∧ b k < 0x10000) ∧
       (0x7F#8).getLsbD 7 = false ∧ (0x80#8).getLsbD 7 = true) ∧
    (let m := { Mmc1.powerOn with lastWrite := some 4#64 }
     m.lastWrite = some (5#64 - 1#64) ∧ m.lastWrite ≠ some (4#64 - 1#64)) ∧
    (let s := { base with cart := { Cart.blank with mapper := .mmc1 Mmc1.powerOn } }
     s.cart.mapper = .mmc1 Mmc1.powerOn ∧ 0 < s.cart.prgBanks) ∧
    0x8000 ≤ (0x8000#16).toNat ∧ 0x8000 ≤ (0xFFFF#16).toNat ∧ 0x1FFF < 0x2000 := by
  decide +kernel

theorem witness_Mmc3RegistersAndCounter :
    Mmc3.powerOn.a12 = false ∧ ({ Mmc3.powerOn with a12 := true } : Mmc3).a12 = true ∧
      (∀ a ∈ [0xE000, 0xFFFE], 0xE000 ≤ a ∧ a % 2 = 0) ∧ (∀ a ∈ [0xE001, 0xFFFF], 0xE000 ≤ a ∧ a % 2 = 1) ∧
      (∀ a ∈ [0xC000, 0xDFFE], 0xC000 ≤ a ∧ a < 0xE000 ∧ a % 2 = 0) ∧
      (∀ a ∈ [0xC001, 0xDFFF], 0xC000 ≤ a ∧ a < 0xE000 ∧ a % 2 = 1) ∧ 0x7FFF < 0x8000 ∧
      (∀ a ∈ [0x8000, 0x9FFE], 0x8000 ≤ a ∧ a < 0xA000 ∧ a % 2 = 0) ∧
      (∀ a ∈ [0x8001, 0x9FFF], 0x8000 ≤ a ∧ a < 0xA000 ∧ a % 2 = 1) ∧
      (∀ a ∈ [0xA000, 0xBFFE], 0xA000 ≤ a ∧ a < 0xC000 ∧ a % 2 = 0) ∧
      (∀ a ∈ [0xA001, 0xBFFF], 0xA000 ≤ a ∧ a < 0xC000 ∧ a % 2 = 1) ∧
      (let s := { base with cart := { Cart.blank with mapper := .mmc3 Mmc3.powerOn, prgRamPresent := true } }
       s.cart.mapper = .mmc3 Mmc3.powerOn ∧ 0 < s.cart.prgBanks ∧ s.cart.prgRamPresent = true) ∧
      base.cart.mapper.kind ≠ 4 ∧
      (∀ n ∈ [0x6000, 0x7FFF], let a := BitVec.ofNat 16 n; 0x6000 ≤ a.toNat ∧ a.toNat < 0x8000) ∧
      (∀ n ∈ [0x8000, 0xFFFF], let a := BitVec.ofNat 16 n; 0x8000 ≤ a.toNat) ∧ 0x1FFF < 0x2000 := by
  decide +kernel

theorem witness_EveryStepKeepsWellFormed :
    base.params.deviceReset = .nothing ∧ base.wf = true ∧ nextIs base (fun _ => true) = true := by
  decide +kernel

theorem witness_StallIsWhatTheDmaQueueOwes :
    let s := { base with stall := 517, dma := [.oam 0x02#8 1 0 0#8, .dmc 0x8000#16 0] }
    s.stallAccounted = true ∧ nextIs s (fun _ => true) = true := by
  decide +kernel

theorem witness_LinesAreSampledEveryCycle : nextIs base (fun _ => true) = true := by decide +kernel

theorem witness_PendingNmiIsNeverLost :
    (let s := { base with stall := 1, nmiPending := true }
     s.resetReq = false ∧ 0 < s.stall ∧ s.nmiPending = true ∧ nextIs s (fun _ => true) = true) ∧
    (let s := { base with nmiPending := true }
     mnemonicOf (opcodeOf .rti) ≠ "BRK" ∧ completes .rti s = true ∧ s.nmiPending = true) := by
  decide +kernel

/-- A step of a machine with CHR-ROM, and a warm reset with another DEVICE_RESET. -/
theorem witness_PlatformNeverChanges :
    (let s := { base with cart := { Cart.blank with chrBanks := 1 } }
     s.cart.chrBanks ≠ 0 ∧ nextIs s (fun _ => true) = true) ∧
    nextIs { base with resetReq := true, params := ⟨.nop, .nop, .other⟩ } (fun _ => true) = true := by
  decide +kernel

theorem witness_TheCoreNeverStops : base.policiesNop = true ∧ base.stuck = none := by decide +kernel

/-- A writer of each register that changes it. -/
theorem witness_RegisterWritersAreTheListed :
    ∀ p ∈ [
        (Instr.ldaImm 1#8, fun t : State => t.a != base.a), (Instr.ldxImm 1#8, fun t => t.x != base.x),
        (Instr.ldyImm 1#8, fun t => t.y != base.y), (Instr.pha, fun t => t.s != base.s)],
      (match exec p.1 base with | .next t => p.2 t | _ => false) = true := by
  decide +kernel

/-- A writer of each flag that changes it. -/
theorem witness_FlagWritersAreTheListed :
    ∀ p ∈ [
        (Instr.sec, fun t : State => t.p.c != base.p.c), (Instr.ldaImm 0#8, fun t => t.p.z != base.p.z),
        (Instr.ldaImm 0x80#8, fun t => t.p.n != base.p.n), (Instr.sei, fun t => t.p.i != base.p.i),
        (Instr.sed, fun t => t.p.d != base.p.d), (Instr.arrImm 0x60#8, fun t => t.p.v != base.p.v)],
      (match exec p.1 { base with a := 0x40#8 } with | .next t => p.2 t | _ => false) = true := by
  decide +kernel

/-- An instruction across 0xFFFF and 0x0000. -/
theorem witness_PcIsPastNonControlInstructions :
    let s := { base with pc := 0xFFFF#16, cart := prg [(0x7FFF, 0xAD#8)] }
    s.atInstruction = true ∧ s.policiesNop = true ∧
      mnemonicOf (fetch s).1 ∉
        ["BCC", "BCS", "BEQ", "BMI", "BNE", "BPL", "BVC", "BVS", "JMP", "JSR", "RTS", "RTI", "BRK"] := by
  decide +kernel

theorem witness_StepTakesTableCycles : base.atInstruction = true ∧ base.policiesNop = true := by decide +kernel

/-- A sum that wraps past 0xFFFF into RAM. -/
theorem witness_EffectiveAddressesAreTableThirtyA :
    memByte { base with x := 1#8, ram := [(0, 0x5A#8)] } (tableAddr (.absx 0xFFFF#16) { base with x := 1#8 }) =
      some 0x5A#8 := by
  decide +kernel

/-! The statements about instructions of one shape ask for a well-formed state (or nothing) and a member of a list: `base`
is well-formed, and a member of every list completes at it. -/

theorem witness_LoadsPutOperandInRegister :
    ∀ i ∈ [Instr.ldaAbsx 0xFFFF#16, .ldxZpy 0xFF#8, .ldyZpx 0xFF#8, .laxIzy 0xFF#8], completes i base = true := by
  decide +kernel

theorem witness_StoresWriteOneByte :
    base.wf = true ∧
      ∀ i ∈ [Instr.staAbsx 0xFFFF#16, .stxZpy 0xFF#8, .styZpx 0xFF#8, .saxIzx 0xFF#8], completes i base = true := by
  decide +kernel

theorem witness_TransfersCopyRegisters :
    ∀ i ∈ [Instr.tax, .tay, .txa, .tya, .tsx, .txs], completes i base = true := by
  decide +kernel

/-- S at either end, where the push or the pull wraps. -/
theorem witness_PushesStoreAtStackPointer :
    base.wf = true ∧ completes .pha { base with s := 0x00#8 } = true ∧ completes .php base = true := by
  decide +kernel

theorem witness_PullsReadAboveStackPointer :
    completes .pla { base with s := 0xFF#8 } = true ∧ completes .plp base = true := by
  decide +kernel

theorem witness_AddAndSubtractAreBinary :
    ∀ i ∈ [Instr.adcImm 0xFF#8, .adcIzy 0xFF#8, .sbcImm 0xFF#8, .sbcImmEB 0xFF#8], completes i base = true := by
  decide +kernel

theorem witness_LogicCombinesAWithOperand :
    ∀ i ∈ [Instr.andImm 0xFF#8, .oraAbsy 0xFFFF#16, .eorIzx 0xFF#8], completes i base = true := by
  decide +kernel

theorem witness_ComparesSetFlagsOnly :
    ∀ i ∈ [Instr.cmpAbsx 0xFFFF#16, .cpxImm 0xFF#8, .cpyZp 0xFF#8, .bitAbs 0xFFFF#16], completes i base = true := by
  decide +kernel

theorem witness_IncrementsAndDecrementsModifyMemory :
    base.wf = true ∧
      ∀ i ∈ [Instr.incAbsx 0xFFFF#16, .decZpx 0xFF#8, .dcpIzx 0xFF#8, .iscIzy 0xFF#8], completes i base = true := by
  decide +kernel

theorem witness_IndexRegistersStepByOne :
    ∀ i ∈ [Instr.inx, .iny, .dex, .dey], completes i { base with x := 0xFF#8 } = true := by
  decide +kernel

theorem witness_ShiftsMoveOneBit :
    base.wf = true ∧
      ∀ i ∈ [Instr.aslZp 0xFF#8, .lsrAbs 0xFFFF#16, .rolZpx 0xFF#8, .rorAbsx 0xFFFF#16, .aslAcc],
        completes i base = true := by
  decide +kernel

/-- A pointer at the end of a page. -/
theorem witness_JmpSetsPc :
    completes (.jmpAbs 0xFFFF#16) base = true ∧ completes (.jmpInd 0x02FF#16) base = true ∧
      memByte { base with ram := [(0x200, 0x12#8), (0x2FF, 0x34#8)] } 0x02FF#16 = some 0x34#8 ∧
      memByte { base with ram := [(0x200, 0x12#8), (0x2FF, 0x34#8)] }
        (mkWord (hi 0x02FF#16) (lo 0x02FF#16 + 1#8)) = some 0x12#8 := by
  decide +kernel

theorem witness_BranchesGoToTheirTarget :
    completes (.bcc 0x80#8) { base with pc := 0x0000#16 } = true ∧ completes (.bcs 0x7F#8) base = true := by
  decide +kernel

/-- JSR with its third byte where the pushes do not reach it. -/
theorem witness_SubroutineCallAndReturn :
    let s := { base8000 with s := 0x00#8 }
    s.wf = true ∧ completes (.jsr 0x0012#16) s = true ∧ sameCell s.pc (stackAddr s.s) = false ∧
      sameCell s.pc (stackAddr (s.s - 1#8)) = false ∧ memByte s s.pc = some (hi 0x0012#16) := by
  decide +kernel

theorem witness_FlagInstructionsSetOneFlag :
    ∀ i ∈ [Instr.clc, .sec, .cli, .sei, .cld, .sed, .clv, .nop, .nopImp1A], completes i base = true := by
  decide +kernel

theorem witness_ShiftAndCombineUseTheNewByte :
    base.wf = true ∧
      ∀ i ∈ [Instr.sloIzx 0xFF#8, .rlaAbsy 0xFFFF#16, .sreZp 0xFF#8, .rraIzy 0xFF#8], completes i base = true := by
  decide +kernel

theorem witness_ImmediateCombinationsSetTheirFlags :
    ∀ i ∈ [Instr.alrImm 0xFF#8, .ancImm0B 0x80#8, .arrImm 0xFF#8, .axsImm 0xFF#8], completes i base = true := by
  decide +kernel

theorem witness_OperandNopsReadAndDiscard :
    ∀ i ∈ [Instr.nopZp04 0xFF#8, .nopAbs 0x2002#16, .nopZpx14 0xFF#8, .nopAbsx1C 0xFFFF#16, .nopImm80 0#8],
      completes i base = true := by
  decide +kernel

theorem witness_PolicyOpcodesRunAsNops :
    base.params.unstable = .nop ∧ base.params.jam = .nop ∧
      ∀ i ∈ [Instr.xaaImm 0xFF#8, .lasAbsy 0xFFFF#16, .ahxIzy 0xFF#8, .jam02], completes i base = true := by
  decide +kernel

theorem witness_RefusedOpcodeSticksUntilReset :
    (let s := { base with ram := [(0x200, 0x8B#8)], params := ⟨.refuse, .nop, .nothing⟩ }
     s.atInstruction = true ∧ (fetch s).1 = 0x8B#8 ∧ s.params.unstable = .refuse) ∧
    (let s := { base with ram := [(0x200, 0xF2#8)], params := ⟨.nop, .refuse, .nothing⟩ }
     s.atInstruction = true ∧ (fetch s).1 = 0xF2#8 ∧ s.params.jam = .refuse) := by
  decide +kernel

end Sys2Proof.Tests
end

/-! Proofs for the family 10_state: the step by its priorities, the reset sequence, the fetch phase, the latches, the
stall counter, and what each instruction can change. -/

namespace Sys2Proof.Machine

/-! ## Two parts of the quiet frame -/

/-- A quiet frame loses no pending NMI. -/
theorem Quiet.keepsNmi {k : Nat} {s t : State} (h : Quiet k s t) (hn : s.nmiPending = true) : t.nmiPending = true := by
  obtain ⟨⟨-, -, ⟨hk, -⟩, -⟩, -⟩ := h
  exact hk hn

theorem Quiet.keepsMemory {k : Nat} {s t : State} (h : Quiet k s t) : KeepsMemory s t := h.1.2.1

/-! ## What the step is, priority by priority (rule R320) -/

theorem step_reset {s : State} (h : s.resetReq = true) : step s = .next (resetSequence s) := if_pos h

/-- With nothing else due a step is the instruction after its fetch phase. -/
theorem step_instruction {s : State} (h : s.atInstruction = true) :
    step s = exec (fetchPhase s).1 (fetchPhase s).2 := by
  simp only [State.atInstruction, Bool.and_eq_true, Bool.not_eq_true', Option.isNone_iff_eq_none,
    decide_eq_true_eq] at h
  obtain ⟨⟨⟨⟨hr, hu⟩, hs⟩, hn⟩, hi⟩ := h
  simp [step, cpuStep, hr, hu, hs, hn, hi]

/-- Where the next state of a step comes from: the five things rule R320 lets a step run. -/
theorem step_next_cases {s t : State} (h : step s = .next t) :
    (s.resetReq = true ∧ t = resetSequence s) ∨ (0 < s.stall ∧ t = stallCycle s) ∨
      (s.stall = 0 ∧
        (t = nmiSequence s ∨ t = irqSequence s ∨ exec (fetchPhase s).1 (fetchPhase s).2 = .next t)) := by
  unfold step cpuStep at h
  split at h
  · next hr => exact .inl ⟨hr, by cases h; rfl⟩
  · split at h
    · cases h
    · split at h
      · next hs => exact .inr (.inl ⟨hs, by cases h; rfl⟩)
      · next hs =>
        refine .inr (.inr ⟨by omega, ?_⟩)
        split at h
        · exact .inl (by cases h; rfl)
        · split at h
          · exact .inr (.inl (by cases h; rfl))
          · exact .inr (.inr h)

/-- The next state an instruction answers is reached by a run. -/
theorem exec_run {i : Instr} {s t : State} (h : exec i s = .next t) : BusRun s t := by
  obtain ⟨u, hu, r⟩ := exec_runs i s
  rw [hu] at h
  cases h
  exact r

/-! ## The stall counter -/

/-- Settles O31: a run and a stall cycle keep the accounts, and a reset ends with nothing owed. -/
theorem stallIsWhatTheDmaQueueOwes : Obligations.StallIsWhatTheDmaQueueOwes := by
  intro s t ha h
  obtain ⟨-, rfl⟩ | ⟨hs, rfl⟩ | ⟨-, rfl | rfl | hx⟩ := step_next_cases h
  · exact State.dropStall_accounted
  · exact stallCycle_accounted ha hs
  · exact (BusRun.nmiSequence s).accounted ha
  · exact (BusRun.irqSequence s).accounted ha
  · exact ((fetchPhase_run s).trans (exec_run hx)).accounted ha

/-! ## The reset sequence -/

/-- Cycles 1 and 2 of the reset sequence: two reads at PC; S is then 0 (rule R400). -/
def resetIdle (s : State) : State := (dummyRead s.pc (dummyRead s.pc s)).setS 0x00#8

/-- Cycles 3 to 5, three stack reads; I is then set (rule R400). -/
def resetStackReads (s : State) : State :=
  let u := resetStackRead (resetStackRead (resetStackRead s))
  u.setP { u.p with i := true }

/-- The seven cycles of the reset sequence: the five reads, then the vector. -/
def resetVectored (s : State) : State := loadVector resetVector (resetStackReads (resetIdle s))

/-- The reset sequence: its start, its cycles, and nothing owed at the end. -/
theorem resetSequence_eq (s : State) : resetSequence s = (resetVectored (resetStart s)).dropStall := rfl

theorem resetReads_regs (s : State) :
    (resetStackReads (resetIdle s)).regs = (s.a, s.x, s.y, 0xFD#8, s.pc, { s.p with i := true }) := by
  simp [State.regs, resetStackReads, resetIdle, resetStackRead]

theorem resetIdle_quiet (s : State) : Quiet 2 s (resetIdle s) :=
  ((dummyRead_quiet s.pc s).trans (dummyRead_quiet s.pc _)).ofDevices rfl

theorem resetStackRead_quiet (s : State) : Quiet 1 s (resetStackRead s) := dummyRead_quiet (stackAddr s.s) s

theorem resetStackReads_quiet (s : State) : Quiet 3 s (resetStackReads s) :=
  (((resetStackRead_quiet s).trans (resetStackRead_quiet _)).trans (resetStackRead_quiet _)).ofDevices rfl

theorem resetReads_accesses (s : State) :
    (resetStackReads (resetIdle s)).devices =
      (accesses [.read s.pc, .read s.pc, .read 0x0100#16, .read 0x01FF#16, .read 0x01FE#16] s).devices := by
  have hi : (resetIdle s).devices = (accesses [.read s.pc, .read s.pc] s).devices := by
    unfold resetIdle
    rw [devices_setS, accesses_cons, accesses_cons, accesses_nil]
    rfl
  have hr := resetStackRead_then (resetStackRead_then (resetStackRead_then hi))
  have h0 : (resetIdle s).s = 0x00#8 := rfl
  simp only [resetStackRead_s, h0] at hr
  unfold resetStackReads
  rw [devices_setP]
  exact hr

theorem NmiKept.setPc {s t : State} (h : NmiKept s t) (w : Word) : NmiKept s (t.setPc w) := h
theorem NmiKept.setS {s t : State} (h : NmiKept s t) (v : Byte) : NmiKept s (t.setS v) := h
theorem NmiKept.setP {s t : State} (h : NmiKept s t) (f : Flags) : NmiKept s (t.setP f) := h
theorem NmiKept.dummyRead {s t : State} (h : NmiKept s t) (a : Word) : NmiKept s (dummyRead a t) :=
  h.trans (memRead_nmiKept a t)

theorem NmiKept.resetStackRead {s t : State} (h : NmiKept s t) : NmiKept s (resetStackRead t) := (h.dummyRead _).setS _

theorem loadVector_nmiKept (v : Word) (s : State) : NmiKept s (loadVector v s) :=
  ((memRead_nmiKept v s).trans (memRead_nmiKept _ _)).setPc _

theorem resetIdle_nmiKept (s : State) : NmiKept s (resetIdle s) :=
  (NmiKept.dummyRead (memRead_nmiKept s.pc s) _).setS _

theorem resetStackReads_nmiKept (s : State) : NmiKept s (resetStackReads s) :=
  (NmiKept.resetStackRead (.resetStackRead ((memRead_nmiKept (stackAddr s.s) s).setS _))).setP _

/-- What a reset keeps and clears before its first cycle, whatever DEVICE_RESET does to the devices (rules R400,
R402). -/
theorem resetStart_core (s : State) :
    (resetStart s).core = (s.regs, s.params, false, none, false) ∧ (resetStart s).cycles = s.cycles ∧
      (resetStart s).ram = s.ram := by
  obtain h | ⟨-, -, h⟩ := resetStart_cases s <;> rw [h] <;> exact ⟨rfl, rfl, rfl⟩

theorem resetVectored_regs (s : State) :
    (resetVectored s).regs = (s.a, s.x, s.y, 0xFD#8, (resetVectored s).pc, { s.p with i := true }) := by
  have h := resetReads_regs s
  simp only [State.regs, Prod.mk.injEq] at h
  obtain ⟨ha, hx, hy, hs, -, hp⟩ := h
  rw [resetVectored, loadVector_regs, ha, hx, hy, hs, hp]

theorem resetVectored_quiet (s : State) : Quiet 7 s (resetVectored s) :=
  ((resetIdle_quiet s).trans (resetStackReads_quiet _)).trans (loadVector_quiet _ _)

theorem resetVectored_nmiKept (s : State) : NmiKept s (resetVectored s) :=
  ((resetIdle_nmiKept s).trans (resetStackReads_nmiKept _)).trans (loadVector_nmiKept _ _)

theorem resetVectored_devices (s : State) :
    (resetVectored s).devices =
      (accesses [.read s.pc, .read s.pc, .read 0x0100#16, .read 0x01FF#16, .read 0x01FE#16, .read 0xFFFC#16,
        .read 0xFFFD#16] s).devices := by
  have h := loadVector_then resetVector (resetReads_accesses s)
  exact h

/-- PC comes from the reset vector, which the five reads before it leave as it was. -/
theorem resetVectored_pc {s : State} {w : Word} (h : VectorShows s 0xFFFC#16 w) : (resetVectored s).pc = w := by
  have hq := (resetIdle_quiet s).trans (resetStackReads_quiet _)
  exact loadVector_pc ⟨(hq.memByte _).trans h.1, (hq.memByte _).trans h.2⟩

/-- Settles O8: the sequence is seven read cycles from the state `resetStart` leaves. -/
theorem resetSequenceSetsSIAndPc : Obligations.ResetSequenceSetsSIAndPc := by
  intro s hreq
  refine ⟨(resetVectored (resetStart s)).dropStall, by rw [step_reset hreq, resetSequence_eq], ?_⟩
  obtain ⟨hcore, hcycles, hram⟩ := resetStart_core s
  simp only [State.core, State.regs, Prod.mk.injEq] at hcore
  obtain ⟨⟨ha, hx, hy, -, hpc, hp⟩, hparams, hclear, hstuck, hcold⟩ := hcore
  have hregs := resetVectored_regs (resetStart s)
  simp only [State.regs, Prod.mk.injEq] at hregs
  obtain ⟨ra, rx, ry, rs, -, rp⟩ := hregs
  have hq := resetVectored_quiet (resetStart s)
  have hkeep := hq.1
  obtain ⟨⟨kparams, kreq, -, -, -, -, -, -, -, -, kcold⟩, -, ⟨-, -, -, kstuck⟩, kcycles⟩ := hkeep
  have hdev := resetVectored_devices (resetStart s)
  rw [hpc] at hdev
  have hdefault (hd : s.coldReset = true ∨ s.params.deviceReset = .nothing) :
      KeepsMemory s (resetVectored (resetStart s)) ∧
        (∀ w, VectorShows s 0xFFFC#16 w → (resetVectored (resetStart s)).pc = w) ∧
        (s.ppu.ctrl.getLsbD 7 = false → (resetVectored (resetStart s)).nmiPending = false) := by
    rw [resetStart_eq hd] at hq ⊢
    exact ⟨hq.keepsMemory, fun w hw => resetVectored_pc hw, (resetVectored_nmiKept s.resetCleared).2⟩
  generalize resetVectored (resetStart s) = u at *
  refine ⟨ra.trans ha, rx.trans hx, ry.trans hy, rs, rp.trans (by rw [hp]), kcycles.trans (by rw [hcycles]),
    kreq.trans hclear, kstuck.trans hstuck, kparams.trans hparams, kcold.trans hcold, hq.ram.trans hram, rfl, rfl,
    dropStall_devices hdev, fun hd => ⟨resetStart_eq hd, hdefault hd⟩⟩

/-! ## The fetch phase -/

theorem fetchMany_regs (n : Nat) (s : State) :
    (fetchMany n s).regs = (s.a, s.x, s.y, s.s, s.pc + BitVec.ofNat 16 n, s.p) := by
  induction n generalizing s with
  | zero => simp [fetchMany, State.regs]
  | succ n ih =>
    rw [fetchMany, ih, fetch_pc, BitVec.add_assoc, Nat.add_comm n 1, BitVec.ofNat_add]
    simp

theorem fetchMany_quiet (n : Nat) (s : State) : Quiet n s (fetchMany n s) := by
  induction n generalizing s with
  | zero => exact .refl s
  | succ n ih =>
    rw [fetchMany, Nat.add_comm]
    exact (fetch_quiet s).trans (ih _)

/-- Without an access too, the bus would give the byte an address of memory shows. -/
theorem peek_value {s : State} {a : Word} {b : Byte} (h : memByte s a = some b) : peek a s = b := memRead_value h

theorem fetch_value {s : State} {b : Byte} (h : memByte s s.pc = some b) : (fetch s).1 = b := memRead_value h

theorem memByte_fetch (s : State) (a : Word) : memByte (fetch s).2 a = memByte s a := (fetch_quiet s).memByte a

/-- The fetch phase of an opcode with `n` operand fetches: `n + 1` fetches, and an instruction whose operand bytes,
fetched or only named, are those that follow the opcode in memory. -/
theorem fetchPhase_eq {s : State} {n : Nat} (hn : operandFetches s.params (fetch s).1 = n) (h2 : n ≤ 2) :
    ∃ b1 b2, fetchPhase s = (instrOf (fetch s).1 b1 b2, fetchMany (n + 1) s) ∧
      (∀ b, memByte s (s.pc + 1#16) = some b → b1 = b) ∧ ∀ b, memByte s (s.pc + 2#16) = some b → b2 = b := by
  have hpc : s.pc + 1#16 + 1#16 = s.pc + 2#16 := BitVec.add_assoc ..
  unfold fetchPhase
  dsimp only
  rw [fetch_params, hn]
  match n with
  | 0 =>
    refine ⟨_, _, rfl, fun b h => peek_value ?_, fun b h => peek_value ?_⟩
    · rwa [fetch_pc, memByte_fetch]
    · rwa [fetch_pc, memByte_fetch, hpc]
  | 1 =>
    refine ⟨_, _, rfl, fun b h => fetch_value ?_, fun b h => peek_value ?_⟩
    · rwa [fetch_pc, memByte_fetch]
    · rwa [fetch_pc, fetch_pc, memByte_fetch, memByte_fetch, hpc]
  | 2 =>
    refine ⟨_, _, rfl, fun b h => fetch_value ?_, fun b h => fetch_value ?_⟩
    · rwa [fetch_pc, memByte_fetch]
    · rwa [fetch_pc, fetch_pc, memByte_fetch, memByte_fetch, hpc]

/-- An encoding has exactly the bytes of its opcode's row of Table 30-B (rule R100). -/
theorem encode_wellFormed (i : Instr) : bytesWellFormed (encode i) = true := by
  cases i <;> rfl

theorem opLength_opcodeOf (i : Instr) : opLength (opcodeOf i) = (encode i).length := by
  have h := encode_wellFormed i
  unfold opcodeOf
  generalize encode i = l at h ⊢
  cases l with
  | nil => cases h
  | cons op operands => exact (beq_iff_eq.1 h).symm

/-- The grid gives an instruction back from its opcode and operand bytes, whatever bytes come after them. -/
theorem instrOf_encode (i : Instr) (b1 b2 : Byte) :
    instrOf (opcodeOf i) ((encode i).getD 1 b1) ((encode i).getD 2 b2) = i := by
  cases i <;>
    simp only [instrOf, opcodeOf, encode, List.headD_cons, List.getD_cons_succ, List.getD_cons_zero, mkWord_hi_lo] <;>
    rfl

theorem getD_of_agrees {l : List Byte} {k : Nat} {b : Byte} (h : ∀ hk : k < l.length, b = l[k]) : l.getD k b = b := by
  by_cases hk : k < l.length
  · rw [List.getD_eq_getElem _ _ hk, ← h hk]
  · exact List.getD_eq_default _ _ (by omega)

/-- The operand bytes of a fetch phase fix the instruction where they agree with its encoding. -/
theorem instrOf_of_bytes {i : Instr} {b1 b2 : Byte} (h1 : ∀ h : 1 < (encode i).length, b1 = (encode i)[1])
    (h2 : ∀ h : 2 < (encode i).length, b2 = (encode i)[2]) : instrOf (opcodeOf i) b1 b2 = i := by
  have h := instrOf_encode i b1 b2
  rwa [getD_of_agrees h1, getD_of_agrees h2] at h

/-- An opcode no policy refuses has all its operand bytes fetched, but for JSR's third. -/
theorem operandFetches_opcodeOf {q : Params} {i : Instr} (h : refuses q (opcodeOf i) = false) :
    operandFetches q (opcodeOf i) + 1 = if opcodeOf i = 0x20#8 then 2 else (encode i).length := by
  have hl := opLength_cases (opcodeOf i)
  rw [operandFetches, h, ← opLength_opcodeOf]
  simp only [Bool.false_eq_true, if_false]
  split <;> omega

theorem encode_zero {i : Instr} (h : 0 < (encode i).length) : (encode i)[0] = opcodeOf i := by
  unfold opcodeOf
  generalize encode i = l at h ⊢
  cases l with
  | nil => cases h
  | cons _ _ => rfl

/-- Settles O5: the fetch phase is the fetches, and its bytes are the encoding. -/
theorem stepRunsDecodedInstruction : Obligations.StepRunsDecodedInstruction := by
  intro s i hat hr hb n f
  have hl := opLength_cases (opcodeOf i)
  have hle : operandFetches s.params (opcodeOf i) ≤ 2 := by
    unfold operandFetches
    split_ifs <;> omega
  rw [opLength_opcodeOf] at hl
  have hop : (fetch s).1 = opcodeOf i := by
    have h0 := hb 0 (by omega)
    rw [show s.pc + BitVec.ofNat 16 0 = s.pc from BitVec.add_zero _, encode_zero] at h0
    exact fetch_value h0
  obtain ⟨b1, b2, hf, h1, h2⟩ := fetchPhase_eq (congrArg (operandFetches s.params) hop) hle
  rw [operandFetches_opcodeOf hr, hop, instrOf_of_bytes (fun h => h1 _ (hb 1 h)) (fun h => h2 _ (hb 2 h))] at hf
  refine ⟨?_, fetchMany_regs n s, (fetchMany_quiet n s).1⟩
  rw [step_instruction hat, hf]

/-! ## The latches -/

theorem loadVector_latches (v : Word) (s : State) : (loadVector v s).latchesSampled = true := endCycle_latches _

theorem enterVector_latches (b : Bool) (v : Word) (s : State) : (enterVector b v s).latchesSampled = true :=
  loadVector_latches v _

theorem fetch_latches (s : State) : (fetch s).2.latchesSampled = true := endCycle_latches _

/-- The last cycle of a fetch phase is a fetch, whatever its number of operand bytes. -/
theorem fetchPhase_latches (s : State) : (fetchPhase s).2.latchesSampled = true := by
  unfold fetchPhase
  dsimp only
  split <;> exact fetch_latches _

/-- A step ends with a cycle, or with register writes after one, so the latches hold the levels of that cycle. -/
theorem step_latches {s t : State} (h : step s = .next t) : t.latchesSampled = true := by
  obtain ⟨-, rfl⟩ | ⟨-, rfl⟩ | ⟨-, rfl | rfl | hx⟩ := step_next_cases h
  · rw [resetSequence_eq, State.dropStall_latches, resetVectored]
    exact loadVector_latches _ _
  · exact endCycle_latches _
  · exact enterVector_latches _ _ _
  · exact enterVector_latches _ _ _
  · exact (exec_run hx).latches (fetchPhase_latches s)

/-- Settles O32: `endCycle` by its definition, and every step ends with the latches sampled. -/
theorem linesAreSampledEveryCycle : Obligations.LinesAreSampledEveryCycle := by
  refine ⟨fun s => ⟨rfl, rfl⟩, fun s t h => ?_⟩
  have hl := step_latches h
  simp only [State.latchesSampled, Bool.and_eq_true, beq_iff_eq] at hl
  exact hl

/-! ## A pending NMI in a stall cycle -/

theorem DmaJob.cycle_nmiPending (j : DmaJob) (s : State) : (j.cycle s).2.nmiPending = s.nmiPending := by
  have hb (a : Word) : (busRead a s).2.nmiPending = s.nmiPending := (deviceRead_latches a.toNat s).1
  cases j with
  | oam page align pos latch =>
    simp only [DmaJob.cycle, oamDmaCycle]
    split_ifs
    · rfl
    · exact hb _
    · rfl
  | dmc addr pos =>
    simp only [DmaJob.cycle, dmcDmaCycle]
    split_ifs
    · rfl
    · exact hb addr

theorem dmaCycle_nmiPending (s : State) : (dmaCycle s).nmiPending = s.nmiPending := by
  unfold dmaCycle
  split
  · rfl
  · exact DmaJob.cycle_nmiPending _ s

theorem stallCycle_keepsNmi {s : State} (h : s.nmiPending = true) : (stallCycle s).nmiPending = true :=
  (endCycle_quiet _).keepsNmi ((dmaCycle_nmiPending _).trans h)

/-! ## What an operation can change -/

/-- What the writer lists of rules R21 to R24, R30 to R35 and R38 are about: the registers, the flags, the pending
NMI. -/
inductive Tracked where
  | a | x | y | s | c | z | i | d | v | n | nmi
  deriving DecidableEq

/-- The part is as it was; an NMI that was pending still is. -/
def Tracked.Kept (q : Tracked) (s t : State) : Prop :=
  match q with
  | .a => t.a = s.a
  | .x => t.x = s.x
  | .y => t.y = s.y
  | .s => t.s = s.s
  | .c => t.p.c = s.p.c
  | .z => t.p.z = s.p.z
  | .i => t.p.i = s.p.i
  | .d => t.p.d = s.p.d
  | .v => t.p.v = s.p.v
  | .n => t.p.n = s.p.n
  | .nmi => s.nmiPending = true → t.nmiPending = true

theorem Tracked.Kept.trans {q : Tracked} {s t u : State} (h : q.Kept s t) (k : q.Kept t u) : q.Kept s u := by
  cases q with
  | nmi => exact fun e => k (h e)
  | _ => exact Eq.trans k h

/-- The parts an operation can change. -/
abbrev WriteSet := List Tracked

namespace WriteSet

def none : WriteSet := []
def s : WriteSet := [.s]
def c : WriteSet := [.c]
def i : WriteSet := [.i]
def d : WriteSet := [.d]
def v : WriteSet := [.v]
def nz : WriteSet := [.n, .z]
def anz : WriteSet := [.a, .n, .z]
def xnz : WriteSet := [.x, .n, .z]
def ynz : WriteSet := [.y, .n, .z]
def axnz : WriteSet := [.a, .x, .n, .z]
def asnz : WriteSet := [.a, .s, .n, .z]
def cnz : WriteSet := [.c, .n, .z]
def acnz : WriteSet := [.a, .c, .n, .z]
def xcnz : WriteSet := [.x, .c, .n, .z]
def vnz : WriteSet := [.v, .n, .z]
def acvnz : WriteSet := [.a, .c, .v, .n, .z]
/-- S and every flag of P. -/
def sp : WriteSet := [.s, .c, .z, .i, .d, .v, .n]
def brk : WriteSet := [.s, .i, .nmi]

/-- The registers and flags of a state, those in `W` blanked out. -/
def rest (W : WriteSet) (s : State) : Byte × Byte × Byte × Byte × Flags :=
  (bif W.contains .a then 0#8 else s.a, bif W.contains .x then 0#8 else s.x, bif W.contains .y then 0#8 else s.y,
    bif W.contains .s then 0#8 else s.s,
    { c := !W.contains .c && s.p.c, z := !W.contains .z && s.p.z, i := !W.contains .i && s.p.i,
      d := !W.contains .d && s.p.d, v := !W.contains .v && s.p.v, n := !W.contains .n && s.p.n })

end WriteSet

/-- From `s` to `t` nothing changes but parts in `W`. -/
def Changes (W : WriteSet) (s t : State) : Prop := ∀ q : Tracked, W.contains q = false → q.Kept s t

theorem memWrite_keepsNmi (a : Word) (d : Byte) {s : State} (hn : s.nmiPending = true) :
    (memWrite a d s).nmiPending = true :=
  (endCycle_quiet (busWrite a d s)).keepsNmi ((busWrite_keepsPending a d s).1 hn)

namespace Changes

variable {W : WriteSet} {s t u : State}

theorem refl (s : State) : Changes W s s := fun q _ => by
  cases q with
  | nmi => exact id
  | _ => rfl

theorem trans (h : Changes W s t) (k : Changes W t u) : Changes W s u := fun q hq => (h q hq).trans (k q hq)

/-- Registers and flags outside `W` alike, and no pending NMI lost. -/
theorem of_rest (hr : W.rest t = W.rest s) (hn : s.nmiPending = true → t.nmiPending = true) : Changes W s t := by
  intro q hq
  simp only [WriteSet.rest, Prod.mk.injEq, Flags.mk.injEq] at hr
  obtain ⟨ha, hx, hy, hs, fn, fv, fd, fi, fz, fc⟩ := hr
  match q with
  | .a => simpa only [Tracked.Kept, hq, cond_false] using ha
  | .x => simpa only [Tracked.Kept, hq, cond_false] using hx
  | .y => simpa only [Tracked.Kept, hq, cond_false] using hy
  | .s => simpa only [Tracked.Kept, hq, cond_false] using hs
  | .c => simpa only [Tracked.Kept, hq, Bool.not_false, Bool.true_and] using fc
  | .z => simpa only [Tracked.Kept, hq, Bool.not_false, Bool.true_and] using fz
  | .i => simpa only [Tracked.Kept, hq, Bool.not_false, Bool.true_and] using fi
  | .d => simpa only [Tracked.Kept, hq, Bool.not_false, Bool.true_and] using fd
  | .v => simpa only [Tracked.Kept, hq, Bool.not_false, Bool.true_and] using fv
  | .n => simpa only [Tracked.Kept, hq, Bool.not_false, Bool.true_and] using fn
  | .nmi => exact hn

/-- Register writes within `W`. -/
theorem regs (h : Changes W s t) (hr : W.rest u = W.rest t) (hn : u.nmiPending = t.nmiPending) : Changes W s u :=
  h.trans (.of_rest hr fun e => hn.trans e)

/-- A part that is not as it was is in `W`. -/
theorem written (h : Changes W s t) {q : Tracked} (hq : ¬ q.Kept s t) : W.contains q = true :=
  Bool.not_eq_false _ ▸ fun e => hq (h q e)

theorem quiet {k : Nat} (h : Changes W s t) (hq : Quiet k t u) (hr : u.regs = t.regs) : Changes W s u := by
  refine h.trans (.of_rest ?_ hq.keepsNmi)
  simp only [State.regs, Prod.mk.injEq] at hr
  obtain ⟨ha, hx, hy, hs, -, hp⟩ := hr
  simp only [WriteSet.rest, ha, hx, hy, hs, hp]

theorem read (h : Changes W s t) (a : Word) : Changes W s (memRead a t).2 :=
  h.quiet (memRead_quiet a t) (dummyRead_regs a t)

theorem write (h : Changes W s t) (a : Word) (d : Byte) : Changes W s (memWrite a d t) := by
  refine h.trans (.of_rest ?_ (memWrite_keepsNmi a d))
  simp [WriteSet.rest]

theorem setPc (h : Changes W s t) (w : Word) : Changes W s (t.setPc w) := h.regs rfl rfl

theorem setS (h : Changes W s t) (hs : W.contains .s = true) (w : Byte) : Changes W s (t.setS w) :=
  h.regs (by simp only [WriteSet.rest, hs, cond_true, State.setS_a, State.setS_x, State.setS_y, State.setS_p]) rfl

/-- PLP and RTI write every flag. -/
theorem setP (h : Changes .sp s t) (f : Flags) : Changes .sp s (t.setP f) := h.regs rfl rfl

/-- An interrupt entry sets I. -/
theorem setI (h : Changes .brk s t) : Changes .brk s (t.setP { t.p with i := true }) := h.regs rfl rfl

theorem clearNmi (h : Changes W s t) (hn : W.contains .nmi = true) : Changes W s { t with nmiPending := false } :=
  h.trans fun q hq => by
    cases q with
    | nmi => rw [hn] at hq; cases hq
    | _ => rfl

theorem stick (h : Changes W s t) (op : Byte) : Changes W s { t with stuck := some op } := h.regs rfl rfl

/-! ### The shared operations -/

theorem dummyRead (h : Changes W s t) (a : Word) : Changes W s (dummyRead a t) := h.read a
theorem implied (h : Changes W s t) : Changes W s (implied t) := h.read t.pc

theorem push (h : Changes W s t) (hs : W.contains .s = true) (d : Byte) : Changes W s (push d t) :=
  (h.write _ d).setS hs _

theorem pull (h : Changes W s t) (hs : W.contains .s = true) : Changes W s (pull t).2 := (h.setS hs _).read _
theorem pushPc (h : Changes W s t) (hs : W.contains .s = true) : Changes W s (pushPc t) := (h.push hs _).push hs _
theorem pullWord (h : Changes W s t) (hs : W.contains .s = true) : Changes W s (pullWord t).2 := (h.pull hs).pull hs
theorem loadVector (h : Changes W s t) (w : Word) : Changes W s (loadVector w t) := ((h.read w).read _).setPc _

theorem readThen (h : Changes W s t) (src : Source) {f : Byte → State → State}
    (hf : ∀ m u, Changes W s u → Changes W s (f m u)) : Changes W s (readThen src f t) :=
  hf _ _ (h.quiet (readOperand_quiet src t) (readOperand_regs src t))

theorem impliedThen (h : Changes W s t) {f : State → State} (hf : ∀ u, Changes W s u → Changes W s (f u)) :
    Changes W s (impliedThen f t) :=
  hf _ h.implied

theorem writeAddress (h : Changes W s t) (o : Operand) : Changes W s (writeAddress o t).2 :=
  h.quiet (writeAddress_quiet o t) (writeAddress_regs o t)

theorem writeOperand (h : Changes W s t) (o : Operand) (w : Byte) : Changes W s (writeOperand o w t) :=
  (h.writeAddress o).write _ w

theorem nopWriteOperand (h : Changes W s t) (o : Operand) : Changes W s (nopWriteOperand o t) :=
  (h.writeAddress o).dummyRead _

theorem modifyOperand (h : Changes W s t) (o : Operand) {f : Byte → State → Byte × State}
    (hf : ∀ m u, Changes W s u → Changes W s (f m u).2) : Changes W s (modifyOperand o f t) :=
  (hf _ _ (((h.writeAddress o).read _).write _ _)).write _ _

/-- In mode `acc` the new byte goes to A. -/
theorem modifyAcc (h : Changes W s t) {f : Byte → State → Byte × State}
    (hf : ∀ m u, Changes W s u → Changes W s ((f m u).2.setA (f m u).1)) : Changes W s (modifyAcc f t) :=
  hf _ _ h.implied

theorem branch (h : Changes W s t) (c : Bool) (off : Byte) : Changes W s (branch c off t) := by
  unfold Machine.branch
  split
  · dsimp only
    split
    · exact (h.dummyRead _).setPc _
    · exact ((h.dummyRead _).dummyRead _).setPc _
  · exact h

end Changes

/-! ## What the control and stack instructions change -/

section
variable (s : State)

theorem jmpInd_changes (w : Word) : Changes .none s (jmpInd w s) := (((Changes.refl s).read _).read _).setPc _

theorem opJsr_changes (w : Word) : Changes .s s (opJsr w s) :=
  ((((Changes.refl s).dummyRead _).pushPc rfl).read _).setPc _

theorem opRts_changes : Changes .s s (opRts s) :=
  ((((Changes.refl s).implied.dummyRead _).pullWord rfl).dummyRead _).setPc _

theorem opPla_changes : Changes .asnz s (opPla s) := (((Changes.refl s).implied.dummyRead _).pull rfl).regs rfl rfl

theorem opPlp_changes : Changes .sp s (opPlp s) := (((Changes.refl s).implied.dummyRead _).pull rfl).setP _

/-- BRK consumes a pending NMI that hijacks its sequence. -/
theorem enterInterrupt_changes (b : Bool) : Changes .brk s (enterInterrupt b s) := by
  have hp : Changes .brk s (pushPc s) := (Changes.refl s).pushPc rfl
  exact ((hp.clearNmi rfl).push rfl _).setI.loadVector _

theorem returnFromInterrupt_changes : Changes .sp s (returnFromInterrupt s) :=
  ((((((Changes.refl s).dummyRead _).dummyRead _).pull rfl).setP _).pullWord rfl).setPc _

end

/-- What each opcode of Table 30-B can change, a row per high nibble. -/
def writesGrid : List (List WriteSet) :=
  [[.brk, .anz, .none, .acnz, .none, .anz, .cnz, .acnz, .s, .anz, .acnz, .acnz, .none, .anz, .cnz, .acnz],
   [.none, .anz, .none, .acnz, .none, .anz, .cnz, .acnz, .c, .anz, .none, .acnz, .none, .anz, .cnz, .acnz],
   [.s, .anz, .none, .acnz, .vnz, .anz, .cnz, .acnz, .sp, .anz, .acnz, .acnz, .vnz, .anz, .cnz, .acnz],
   [.none, .anz, .none, .acnz, .none, .anz, .cnz, .acnz, .c, .anz, .none, .acnz, .none, .anz, .cnz, .acnz],
   [.sp, .anz, .none, .acnz, .none, .anz, .cnz, .acnz, .s, .anz, .acnz, .acnz, .none, .anz, .cnz, .acnz],
   [.none, .anz, .none, .acnz, .none, .anz, .cnz, .acnz, .i, .anz, .none, .acnz, .none, .anz, .cnz, .acnz],
   [.s, .acvnz, .none, .acvnz, .none, .acvnz, .cnz, .acvnz, .asnz, .acvnz, .acnz, .acvnz, .none, .acvnz, .cnz, .acvnz],
   [.none, .acvnz, .none, .acvnz, .none, .acvnz, .cnz, .acvnz, .i, .acvnz, .none, .acvnz, .none, .acvnz, .cnz, .acvnz],
   [.none, .none, .none, .none, .none, .none, .none, .none, .ynz, .none, .anz, .none, .none, .none, .none, .none],
   [.none, .none, .none, .none, .none, .none, .none, .none, .anz, .none, .s, .none, .none, .none, .none, .none],
   [.ynz, .anz, .xnz, .axnz, .ynz, .anz, .xnz, .axnz, .ynz, .anz, .xnz, .axnz, .ynz, .anz, .xnz, .axnz],
   [.none, .anz, .none, .axnz, .ynz, .anz, .xnz, .axnz, .v, .anz, .xnz, .none, .ynz, .anz, .xnz, .axnz],
   [.cnz, .cnz, .none, .cnz, .cnz, .cnz, .nz, .cnz, .ynz, .cnz, .xnz, .xcnz, .cnz, .cnz, .nz, .cnz],
   [.none, .cnz, .none, .cnz, .none, .cnz, .nz, .cnz, .d, .cnz, .none, .cnz, .none, .cnz, .nz, .cnz],
   [.cnz, .acvnz, .none, .acvnz, .cnz, .acvnz, .nz, .acvnz, .xnz, .acvnz, .none, .acvnz, .cnz, .acvnz, .nz, .acvnz],
   [.none, .acvnz, .none, .acvnz, .none, .acvnz, .nz, .acvnz, .d, .acvnz, .none, .acvnz, .none, .acvnz, .nz, .acvnz]]

/-- What an opcode can change. -/
def writesOf (op : Byte) : WriteSet := (writesGrid.getD (op.toNat / 16) []).getD (op.toNat % 16) .none

/-- A meaning that answers a next state and changes nothing but parts in `W`. -/
def Effects (W : WriteSet) (s : State) (r : Result) : Prop := ∃ t, r = .next t ∧ Changes W s t

theorem Effects.next {W : WriteSet} {s t : State} (h : Changes W s t) : Effects W s (.next t) := ⟨t, rfl, h⟩

theorem Effects.underPolicy {W : WriteSet} {s : State} (q : OpcodePolicy) (op : Byte) {f : State → State}
    (h : Changes W s (f s)) : Effects W s (underPolicy q op f s) := by
  cases q with
  | nop => exact .next h
  | refuse => exact .next ((Changes.refl s).stick op)

/-- Every instruction changes nothing but what the grid has for its opcode. -/
theorem exec_effects (i : Instr) (s : State) : Effects (writesOf (opcodeOf i)) s (exec i s) := by
  cases i <;> simp only [opcodeOf, encode, List.headD_cons]
  case oraIzx | oraZp | oraImm | oraAbs | oraIzy | oraZpx | oraAbsy | oraAbsx | nopZp04 | nopAbs | nopZpx14
      | nopAbsx1C | nopZpx34 | nopAbsx3C | nopZp44 | nopZpx54 | nopAbsx5C | nopZp64 | nopZpx74 | nopAbsx7C
      | nopImm80 | nopImm82 | nopImm89 | nopImmC2 | nopZpxD4 | nopAbsxDC | nopImmE2 | nopZpxF4 | nopAbsxFC
      | ancImm0B | ancImm2B | andIzx | andZp | andImm | andAbs | andIzy | andZpx | andAbsy | andAbsx | bitZp
      | bitAbs | eorIzx | eorZp | eorImm | eorAbs | eorIzy | eorZpx | eorAbsy | eorAbsx | alrImm | adcIzx
      | adcZp | adcImm | adcAbs | adcIzy | adcZpx | adcAbsy | adcAbsx | arrImm | ldyImm | ldyZp | ldyAbs
      | ldyZpx | ldyAbsx | ldaIzx | ldaZp | ldaImm | ldaAbs | ldaIzy | ldaZpx | ldaAbsy | ldaAbsx | ldxImm
      | ldxZp | ldxAbs | ldxZpy | ldxAbsy | laxIzx | laxZp | laxImm | laxAbs | laxIzy | laxZpy | laxAbsy
      | cpyImm | cpyZp | cpyAbs | cmpIzx | cmpZp | cmpImm | cmpAbs | cmpIzy | cmpZpx | cmpAbsy | cmpAbsx
      | axsImm | cpxImm | cpxZp | cpxAbs | sbcIzx | sbcZp | sbcImm | sbcImmEB | sbcAbs | sbcIzy | sbcZpx
      | sbcAbsy | sbcAbsx => exact .next ((Changes.refl s).readThen _ fun _ _ h => h.regs rfl rfl)
  case staIzx | staZp | staAbs | staIzy | staZpx | staAbsy | staAbsx | saxIzx | saxZp | saxAbs | saxZpy | styZp
      | styAbs | styZpx | stxZp | stxAbs | stxZpy => exact .next ((Changes.refl s).writeOperand _ _)
  case sloIzx | sloZp | sloAbs | sloIzy | sloZpx | sloAbsy | sloAbsx | aslZp | aslAbs | aslZpx | aslAbsx
      | rlaIzx | rlaZp | rlaAbs | rlaIzy | rlaZpx | rlaAbsy | rlaAbsx | rolZp | rolAbs | rolZpx | rolAbsx
      | sreIzx | sreZp | sreAbs | sreIzy | sreZpx | sreAbsy | sreAbsx | lsrZp | lsrAbs | lsrZpx | lsrAbsx
      | rraIzx | rraZp | rraAbs | rraIzy | rraZpx | rraAbsy | rraAbsx | rorZp | rorAbs | rorZpx | rorAbsx
      | dcpIzx | dcpZp | dcpAbs | dcpIzy | dcpZpx | dcpAbsy | dcpAbsx | decZp | decAbs | decZpx | decAbsx
      | iscIzx | iscZp | iscAbs | iscIzy | iscZpx | iscAbsy | iscAbsx | incZp | incAbs | incZpx | incAbsx =>
    exact .next ((Changes.refl s).modifyOperand _ fun _ _ h => h.regs rfl rfl)
  case aslAcc | rolAcc | lsrAcc | rorAcc => exact .next ((Changes.refl s).modifyAcc fun _ _ h => h.regs rfl rfl)
  case clc | sec | cli | sei | dey | txa | tya | txs | tay | tax | clv | tsx | iny | dex | cld | inx | sed =>
    exact .next ((Changes.refl s).impliedThen fun _ h => h.regs rfl rfl)
  case nopImp1A | nopImp3A | nopImp5A | nopImp7A | nopImpDA | nop | nopImpFA => exact .next (Changes.refl s).implied
  case bpl | bmi | bvc | bvs | bcc | bcs | bne | beq => exact .next ((Changes.refl s).branch _ _)
  case pha | php => exact .next ((Changes.refl s).implied.push rfl _)
  case pla => exact .next (opPla_changes s)
  case plp => exact .next (opPlp_changes s)
  case jmpAbs => exact .next ((Changes.refl s).setPc _)
  case jmpInd => exact .next (jmpInd_changes s _)
  case jsr => exact .next (opJsr_changes s _)
  case rts => exact .next (opRts_changes s)
  case rti => exact .next (returnFromInterrupt_changes s)
  case brk => exact .next (enterInterrupt_changes s true)
  case xaaImm | lasAbsy => exact .underPolicy _ _ ((Changes.refl s).readThen _ fun _ _ h => h)
  case ahxIzy | tasAbsy | shyAbsx | shxAbsy | ahxAbsy => exact .underPolicy _ _ ((Changes.refl s).nopWriteOperand _)
  case jam02 | jam12 | jam22 | jam32 | jam42 | jam52 | jam62 | jam72 | jam92 | jamB2 | jamD2 | jamF2 =>
    exact .underPolicy _ _ (Changes.refl s).implied

/-- The same of the next state an instruction answers. -/
theorem exec_changes {i : Instr} {s t : State} (h : exec i s = .next t) : Changes (writesOf (opcodeOf i)) s t := by
  obtain ⟨u, hu, hc⟩ := exec_effects i s
  rw [hu] at h
  cases h
  exact hc

/-- The mnemonic of an instruction that changes a part is in every list that has those of all opcodes that can. -/
theorem Changes.listed {op : Byte} {s t : State} {L : List String} (h : Changes (writesOf op) s t) {q : Tracked}
    (hq : ¬ q.Kept s t) (hL : ∀ o : Byte, (writesOf o).contains q = true → mnemonicOf o ∈ L) : mnemonicOf op ∈ L :=
  hL op (h.written hq)

/-- Settles O36: the grid against the writer lists of the rules, and `exec_changes`. -/
theorem registerWritersAreTheListed : Obligations.RegisterWritersAreTheListed := by
  intro i s t h
  have hc := exec_changes h
  dsimp only
  generalize opcodeOf i = op at hc ⊢
  refine ⟨fun k => ?_, fun k => ?_, fun k => ?_, fun k => ?_⟩
  · have hw := hc.written (q := .a) k
    clear hc
    revert op
    decide +kernel
  · exact hc.listed (q := .x) k (by decide +kernel)
  · exact hc.listed (q := .y) k (by decide +kernel)
  · exact hc.listed (q := .s) k (by decide +kernel)

/-- Settles O37: the grid against the writer lists of the rules, and `exec_changes`. -/
theorem flagWritersAreTheListed : Obligations.FlagWritersAreTheListed := by
  intro i s t h
  have hc := exec_changes h
  dsimp only
  generalize opcodeOf i = op at hc ⊢
  refine ⟨fun k => ?_, fun k => ?_, fun k => ?_, fun k => ?_, fun k => ?_⟩
  · exact hc.listed (q := .c) k (by decide +kernel)
  · obtain k | k := k
    · exact hc.listed (q := .z) k (by decide +kernel)
    · exact hc.listed (q := .n) k (by decide +kernel)
  · exact hc.listed (q := .i) k (by decide +kernel)
  · exact hc.listed (q := .d) k (by decide +kernel)
  · exact hc.listed (q := .v) k (by decide +kernel)

/-- Settles O33: a stall cycle takes no NMI away, and among the instructions only BRK can. -/
theorem pendingNmiIsNeverLost : Obligations.PendingNmiIsNeverLost := by
  refine ⟨fun s t hr hs hn h => ?_, fun i s t hb h => ?_⟩
  · obtain ⟨hreq, -⟩ | ⟨-, rfl⟩ | ⟨h0, -⟩ := step_next_cases h
    · rw [hr] at hreq
      cases hreq
    · exact stallCycle_keepsNmi hn
    · omega
  · have hc := exec_changes h
    by_contra hlost
    exact hb (List.mem_singleton.1 (hc.listed (q := .nmi) hlost (by decide +kernel)))

end Sys2Proof.Machine

/-! Proofs for the family 20_memory: a step keeps the well-formed states; undriven reads and the RAM mirrors. -/

namespace Sys2Proof.Machine

/-! ## A step keeps the well-formed states -/

/-- A reset keeps them when its start is the assignments alone: its cycles are a run (rules R400, R402). -/
theorem resetSequence_wf {s : State} (hd : s.coldReset = true ∨ s.params.deviceReset = .nothing) (h : s.wf = true) :
    (resetSequence s).wf = true := by
  obtain ⟨t, r, ht⟩ := resetSequence_run s
  rw [resetStart_eq hd] at r
  rw [ht, State.dropStall_wf]
  exact r.wf h

/-- Settles O30: a run, a stall cycle and a reset each keep the well-formed states. -/
theorem everyStepKeepsWellFormed : Obligations.EveryStepKeepsWellFormed := by
  intro s t hd hw h
  obtain ⟨-, rfl⟩ | ⟨-, rfl⟩ | ⟨-, rfl | rfl | hx⟩ := step_next_cases h
  · exact resetSequence_wf (.inr hd) hw
  · exact stallCycle_wf hw
  · exact (BusRun.nmiSequence s).wf hw
  · exact (BusRun.irqSequence s).wf hw
  · exact ((fetchPhase_run s).trans (exec_run hx)).wf hw

/-! ## Undriven addresses -/

/-- A write-only PPU register drives nothing (rule R350). -/
theorem Ppu.regRead_writeOnly (p : Ppu) (c : Cart) (ob : Byte) {r : Nat} (h : r ∈ [0, 1, 3, 5, 6]) :
    p.regRead c ob r = (ob, p) := by
  simp only [List.mem_cons, List.not_mem_nil, or_false] at h
  obtain rfl | rfl | rfl | rfl | rfl := h <;> rfl

/-- Of 0x4000 to 0x401F only 0x4015 to 0x4017 drive the bus (Table 20-A). -/
theorem deviceRead_apuUndriven {a : Nat} (s : State) (h : 0x4000 ≤ a) (h2 : a < 0x4020)
    (h3 : a < 0x4015 ∨ 0x4017 < a) : deviceRead a s = (s.openBus, s) := by
  unfold deviceRead
  iterate 5 rw [if_neg (by omega)]
  exact if_pos h2

/-- Where the cartridge drives nothing below PRG-ROM (rule R371). -/
theorem Cart.cpuRead?_undriven {c : Cart} {a : Nat} (h : a < 0x6000 ∨ a < 0x8000 ∧ c.prgRamPresent = false) :
    c.cpuRead? a = none := by
  unfold Cart.cpuRead?
  obtain h | ⟨h, hp⟩ := h
  · rw [if_pos h]
  · rw [hp, if_pos h]
    exact ite_self none

theorem deviceRead_cartUndriven {a : Nat} {s : State} (h : 0x4020 ≤ a)
    (hc : a < 0x6000 ∨ a < 0x8000 ∧ s.cart.prgRamPresent = false) : deviceRead a s = (s.openBus, s) := by
  rw [deviceRead_cart s h, Cart.cpuRead?_undriven hc]
  rfl

/-- A read nothing drives leaves the latch as it is (rules R62, R63). -/
theorem busRead_undriven {a : Word} {s : State} (h : deviceRead a.toNat s = (s.openBus, s)) :
    busRead a s = (s.openBus, s) := by
  rw [busRead_eq, h]

/-- Nothing takes a byte written at 0x4018 to 0x401F (Table 20-A). -/
theorem deviceWrite_unmapped {a : Nat} (d : Byte) (s : State) (h : 0x4018 ≤ a) (h2 : a < 0x4020) :
    deviceWrite a d s = s := by
  unfold deviceWrite
  iterate 7 rw [if_neg (by omega)]
  exact if_pos h2

/-! ## RAM and its mirrors (rule R66) -/

theorem busRead_ram {a : Word} (s : State) (h : a.toNat < 0x2000) :
    busRead a s = (s.ram.read (a.toNat % 0x800), { s with openBus := s.ram.read (a.toNat % 0x800) }) :=
  busRead_memory (if_pos h)

theorem busWrite_ram {a : Word} (d : Byte) (s : State) (h : a.toNat < 0x2000) :
    busWrite a d s = { s with ram := s.ram.write (a.toNat % 0x800) d, openBus := d } := by
  rw [busWrite_eq, deviceWrite, if_pos h]

/-- A byte written to RAM shows at its mirrors, and at no other RAM address. -/
theorem busRead_busWrite_ram {a b : Word} (d : Byte) {s : State} (ha : a.toNat < 0x2000) (hb : b.toNat < 0x2000)
    (hw : s.wf = true) :
    (busRead b (busWrite a d s)).1 = if a.toNat % 0x800 = b.toNat % 0x800 then d else (busRead b s).1 := by
  obtain ⟨hram, -⟩ := (State.wf_iff s).1 hw
  rw [busWrite_ram d s ha, busRead_ram _ hb, busRead_ram _ hb]
  dsimp only
  split
  · next he => rw [he, Memory.read_write_same hram]
  · next hne => exact Memory.read_write_other (Ne.symm hne)

/-- Settles O26: the latch by the bus operations' definitions, undriven reads by their address ranges, and RAM by the
laws of one memory. -/
theorem openBusAndRamMirrors : Obligations.OpenBusAndRamMirrors := by
  intro s a b d
  refine ⟨rfl, rfl, fun h => busRead_undriven ?_, fun h h2 => ?_, busRead_ram s, fun ha hb hw => ⟨?_, ?_⟩⟩
  · obtain ⟨h, h2, hr⟩ | ⟨h, h2⟩ | ⟨h, h2⟩ | ⟨h, h2, hp⟩ := h
    · rw [deviceRead_ppu s h h2, Ppu.regRead_writeOnly _ _ _ hr]
    · exact deviceRead_apuUndriven s h (by omega) (.inl (by omega))
    · by_cases hc : a.toNat < 0x4020
      · exact deviceRead_apuUndriven s (by omega) hc (.inr (by omega))
      · exact deviceRead_cartUndriven (by omega) (.inl h2)
    · exact deviceRead_cartUndriven (by omega) (.inr ⟨h2, hp⟩)
  · rw [busWrite_eq, deviceWrite_unmapped d s h h2]
  · exact busRead_busWrite_ram d ha hb hw
  · rw [busWrite_ram d s ha]

end Sys2Proof.Machine

/-! Proofs for the family 30_encoding: the decoder and the encoder are inverse to each other, decoding is total, and a
step takes the cycles of Table 30-B. -/

namespace Sys2Proof.Machine

/-! ## The bytes of an instruction (rules R100, R102) -/

theorem encode_eq_cons (i : Instr) : encode i = opcodeOf i :: (encode i).tail := by
  have h := encode_wellFormed i
  unfold opcodeOf
  generalize encode i = l at h ⊢
  cases l with
  | nil => cases h
  | cons _ _ => rfl

theorem length_encode_tail (i : Instr) : (encode i).tail.length = opLength (opcodeOf i) - 1 := by
  rw [List.length_tail, opLength_opcodeOf]

/-- `instrOf_encode` on the operand bytes alone. -/
theorem instrOf_encode_tail (i : Instr) (b1 b2 : Byte) :
    instrOf (opcodeOf i) ((encode i).tail.getD 0 b1) ((encode i).tail.getD 1 b2) = i := by
  have h := instrOf_encode i b1 b2
  rw [encode_eq_cons i] at h
  exact h

/-- A byte past the operands is one of the rest. -/
theorem getD_append_eq {α : Type} (l r : List α) (k : Nat) (d : α) :
    (l ++ r).getD k d = l.getD k (r.getD (k - l.length) d) := by
  by_cases hk : k < l.length
  · rw [List.getD_append _ _ _ _ hk, List.getD_eq_getElem _ _ hk, List.getD_eq_getElem _ _ hk]
  · rw [List.getD_append_right _ _ _ _ (by omega), List.getD_eq_default l _ (by omega)]

/-- Settles O1: the encoding is the opcode and as many operand bytes as its row has, and the grid gives the instruction
back from them. -/
theorem decodeUndoesEncode : Obligations.DecodeUndoesEncode := by
  intro i rest
  have hlen := length_encode_tail i
  rw [encode_eq_cons i, List.cons_append, decode_ok (by rw [List.length_append]; omega), ← hlen, List.drop_left,
    getD_append_eq, getD_append_eq, instrOf_encode_tail]

/-! ## The other direction -/

/-- The grid has an instruction for every opcode. -/
theorem opcodeOf_surjective (op : Byte) : ∃ i, opcodeOf i = op :=
  ⟨instrOf op 0#8 0#8, by revert op; decide +kernel⟩

/-- An entry of the grid, its word the operand bytes `hi w : lo w`, is encoded by its opcode and as many of the two
bytes as its row has. -/
theorem encode_instrOf_word (op : Byte) (w : Word) :
    encode (instrOf op (lo w) (hi w)) = op :: [lo w, hi w].take (opLength op - 1) := by
  obtain ⟨i, h⟩ := opcodeOf_surjective op
  rw [instrOf, mkWord_hi_lo]
  cases i <;> simp only [opcodeOf, encode, List.headD_cons] at h <;> subst h <;> rfl

theorem encode_instrOf (op b1 b2 : Byte) : encode (instrOf op b1 b2) = op :: [b1, b2].take (opLength op - 1) := by
  have h := encode_instrOf_word op (mkWord b2 b1)
  rwa [lo_mkWord, hi_mkWord] at h

theorem opcodeOf_instrOf (op b1 b2 : Byte) : opcodeOf (instrOf op b1 b2) = op := by
  rw [opcodeOf, encode_instrOf, List.headD_cons]

/-- The two bytes a decoder looks at, as far as the list has them. -/
theorem take_getD_pair {α : Type} (l : List α) (d : α) {n : Nat} (hn : n ≤ 2) (hl : n ≤ l.length) :
    [l.getD 0 d, l.getD 1 d].take n = l.take n := by
  match n, l with
  | 0, _ => rfl
  | 1, _ :: _ => rfl
  | 2, _ :: _ :: _ => rfl

/-- The decoder takes exactly the bytes of the instruction it answers. -/
theorem encode_decoded {op : Byte} {rest : List Byte} (h : opLength op ≤ rest.length + 1) :
    encode (instrOf op (rest.getD 0 0#8) (rest.getD 1 0#8)) = op :: rest.take (opLength op - 1) := by
  have hl := opLength_cases op
  rw [encode_instrOf, take_getD_pair rest 0#8 (by omega) (by omega)]

/-- Settles O2: bytes that decode are an opcode with its operand bytes and the rest. -/
theorem encodeUndoesDecode : Obligations.EncodeUndoesDecode := by
  intro bytes rest i h
  cases bytes with
  | nil => cases h
  | cons op tail =>
    by_cases hlen : opLength op ≤ tail.length + 1
    · rw [decode_ok hlen] at h
      cases h
      rw [encode_decoded hlen, List.cons_append, List.take_append_drop]
    · rw [decode_missing (by omega)] at h
      cases h

/-- Settles O3: the decoder by its cases on the number of bytes, and the grid's opcodes. -/
theorem decodingIsTotal : Obligations.DecodingIsTotal :=
  ⟨fun op _ h => ⟨_, decode_ok h, opcodeOf_instrOf op _ _, encode_decoded h⟩, opLength_cases,
    fun _ _ h => decode_missing h, rfl⟩

/-! ## How many cycles an operation takes (rule R160) -/

theorem Quiet.cycles {k : Nat} {s t : State} (h : Quiet k s t) : t.cycles = s.cycles + BitVec.ofNat 64 k := by
  obtain ⟨⟨-, -, -, hc⟩, -⟩ := h
  exact hc

theorem Quiet.params {k : Nat} {s t : State} (h : Quiet k s t) : t.params = s.params := by
  obtain ⟨⟨⟨hp, -⟩, -⟩, -⟩ := h
  exact hp

/-- From `s` to `t` the machine spends `k` cycles. -/
def Lasts (k : Nat) (s t : State) : Prop := t.cycles = s.cycles + BitVec.ofNat 64 k

namespace Lasts

variable {k : Nat} {s t u : State}

theorem refl (s : State) : Lasts 0 s s := (BitVec.add_zero _).symm

theorem quiet {n : Nat} (h : Lasts k s t) (hq : Quiet n t u) : Lasts (k + n) s u := cycles_trans h hq.cycles

/-- Register writes take no cycle. -/
theorem regs (h : Lasts k s t) (hc : u.cycles = t.cycles) : Lasts k s u := hc.trans h

theorem read (h : Lasts k s t) (a : Word) : Lasts (k + 1) s (memRead a t).2 := h.quiet (memRead_quiet a t)

theorem write (h : Lasts k s t) (a : Word) (d : Byte) : Lasts (k + 1) s (memWrite a d t) :=
  cycles_trans h (memWrite_cycles a d t)

theorem setPc (h : Lasts k s t) (w : Word) : Lasts k s (t.setPc w) := h
theorem setP (h : Lasts k s t) (f : Flags) : Lasts k s (t.setP f) := h

/-! ### The shared operations -/

theorem dummyRead (h : Lasts k s t) (a : Word) : Lasts (k + 1) s (dummyRead a t) := h.read a
theorem implied (h : Lasts k s t) : Lasts (k + 1) s (implied t) := h.read t.pc
theorem push (h : Lasts k s t) (d : Byte) : Lasts (k + 1) s (push d t) := h.write _ d
theorem pull (h : Lasts k s t) : Lasts (k + 1) s (pull t).2 := h.quiet (pull_quiet t)
theorem pushPc (h : Lasts k s t) : Lasts (k + 2) s (pushPc t) := (h.push _).push _
theorem pullWord (h : Lasts k s t) : Lasts (k + 2) s (pullWord t).2 := h.pull.pull
theorem loadVector (h : Lasts k s t) (w : Word) : Lasts (k + 2) s (loadVector w t) := (h.read w).read _

end Lasts

/-- The penalty cycles of a branch whose next instruction is at `next`: `+t+p` of Table 30-B where it is taken. -/
def branchPenalty (c : Bool) (off : Byte) (next : Word) : Nat :=
  if c then if hi (next + sext off) = hi next then 1 else 2 else 0

section
variable (s : State)

theorem readThen_lasts (src : Source) {f : Byte → State → State} (hf : ∀ m u, (f m u).cycles = u.cycles) :
    Lasts (readCycles src s) s (readThen src f s) :=
  (hf _ _).trans (readOperand_quiet src s).cycles

theorem impliedThen_lasts {f : State → State} (hf : ∀ u, (f u).cycles = u.cycles) : Lasts 1 s (impliedThen f s) :=
  (hf _).trans (implied_cycles s)

theorem modifyAcc_lasts {f : Byte → State → Byte × State} (hf : ∀ m u, (f m u).2.cycles = u.cycles) :
    Lasts 1 s (modifyAcc f s) :=
  (hf _ _).trans (implied_cycles s)

/-- The access after the address phase is the last of a mode's write cycles. -/
theorem afterWriteAddress_lasts (o : Operand) {t : State} (ht : t.cycles = (writeAddress o s).2.cycles + 1#64) :
    Lasts (writeCycles o s) s t := by
  have h := cycles_trans (writeAddress_quiet o s).cycles ht
  rwa [writeCycles_pos] at h

theorem writeOperand_lasts (o : Operand) (v : Byte) : Lasts (writeCycles o s) s (writeOperand o v s) :=
  afterWriteAddress_lasts s o (memWrite_cycles _ v _)

theorem nopWriteOperand_lasts (o : Operand) : Lasts (writeCycles o s) s (nopWriteOperand o s) :=
  afterWriteAddress_lasts s o (dummyRead_cycles _ _)

theorem modifyOperand_lasts (o : Operand) {f : Byte → State → Byte × State}
    (hf : ∀ m u, (f m u).2.cycles = u.cycles) : Lasts (writeCycles o s + 2) s (modifyOperand o f s) :=
  (((afterWriteAddress_lasts s o (memRead_cycles _ _)).write _ _).regs (hf _ _)).write _ _

theorem opPla_lasts : Lasts 3 s (opPla s) := ((Lasts.refl s).implied.dummyRead _).pull
theorem opPlp_lasts : Lasts 3 s (opPlp s) := ((Lasts.refl s).implied.dummyRead _).pull
theorem jmpInd_lasts (w : Word) : Lasts 2 s (jmpInd w s) := ((Lasts.refl s).read _).read _
theorem opJsr_lasts (w : Word) : Lasts 4 s (opJsr w s) := ((Lasts.refl s).dummyRead _).pushPc.read _
theorem opRts_lasts : Lasts 5 s (opRts s) := ((Lasts.refl s).implied.dummyRead _).pullWord.dummyRead _

theorem enterInterrupt_lasts (b : Bool) : Lasts 5 s (enterInterrupt b s) := by
  have hp : Lasts 2 s { pushPc s with nmiPending := false } := (Lasts.refl s).pushPc
  exact ((hp.push _).setP _).loadVector _

theorem returnFromInterrupt_lasts : Lasts 5 s (returnFromInterrupt s) :=
  ((((Lasts.refl s).dummyRead _).dummyRead _).pull.setP _).pullWord

/-- A taken branch takes its penalties: one cycle, and one more to another page (rule R242). -/
theorem branch_lasts (c : Bool) (off : Byte) : Lasts (branchPenalty c off s.pc) s (branch c off s) := by
  unfold branch branchPenalty branchTarget
  cases c with
  | false => exact Lasts.refl s
  | true =>
    by_cases hpage : hi (s.pc + sext off) = hi s.pc
    · simp only [if_true, if_pos hpage]
      exact (Lasts.refl s).dummyRead _
    · simp only [if_true, if_neg hpage]
      exact ((Lasts.refl s).dummyRead _).dummyRead _

end

/-! ## Every instruction takes the cycles of its row (rules R104, R161) -/

/-- The bytes the fetch phase reads of an opcode no policy refuses: all of its instruction, but for JSR's third. -/
def fetchedBytes (op : Byte) : Nat := if op = 0x20#8 then 2 else opLength op

/-- A meaning of opcode `op` that answers a next state and, with the fetches before it, takes the base cycles of the
opcode's row of Table 30-B and `penalty` more. -/
def TakesTableCycles (op : Byte) (penalty : Nat) (s : State) (r : Result) : Prop :=
  ∃ t k, r = .next t ∧ Lasts k s t ∧ fetchedBytes op + k = baseCycles op + penalty

namespace TakesTableCycles

variable {op : Byte} {penalty : Nat} {s : State}

theorem next {t : State} {k : Nat} (h : Lasts k s t) (hk : fetchedBytes op + k = baseCycles op + penalty) :
    TakesTableCycles op penalty s (.next t) :=
  ⟨t, k, rfl, h, hk⟩

/-- The default policies run the opcode's NOP (rule R296). -/
theorem underPolicy {q : OpcodePolicy} {o : Byte} {f : State → State} (hq : q = .nop)
    (h : TakesTableCycles op penalty s (.next (f s))) : TakesTableCycles op penalty s (underPolicy q o f s) := by
  rw [hq]
  exact h

/-- A read takes its operand's cycles of Table 40-A and nothing for its effect. -/
theorem readThen {src : Source} {f : Byte → State → State} (hf : ∀ m u, (f m u).cycles = u.cycles)
    (hk : fetchedBytes op + readCycles src s = baseCycles op + penalty) :
    TakesTableCycles op penalty s (.next (readThen src f s)) :=
  .next (readThen_lasts s src hf) hk

/-- An indexed read takes a cycle more where its low-byte sum carries, which is the penalty `+p` of its row. -/
theorem readIndexed {o : Operand} {f : Byte → State → State} (hf : ∀ m u, (f m u).cycles = u.cycles)
    (hk : fetchedBytes op + (addressCycles o + 1) = baseCycles op) :
    TakesTableCycles op (crossesPage o s).toNat s (.next (Machine.readThen (.mem o) f s)) := by
  refine .next (readThen_lasts s (.mem o) hf) ?_
  rw [readCycles, ← Nat.add_assoc, hk]

/-- A branch takes nothing but its fetches, and its penalties where it is taken. -/
theorem branch {c : Bool} {off : Byte} (hk : fetchedBytes op = baseCycles op) :
    TakesTableCycles op (branchPenalty c off s.pc) s (.next (branch c off s)) :=
  .next (branch_lasts s c off) (by rw [hk])

end TakesTableCycles

/-- The penalties of a branch are those of its condition. -/
theorem penaltyCycles_branch {i : Instr} {c : Bool} {off : Byte} {next : Word} {s : State}
    (h : branchCondition? s.p i = some (c, off)) : penaltyCycles i next s = branchPenalty c off next := by
  rw [penaltyCycles, h]
  cases c <;> rfl

/-- Under the default policies every instruction takes the cycles of its row. -/
theorem exec_takesTableCycles (i : Instr) {s : State} (hu : s.params.unstable = .nop) (hj : s.params.jam = .nop) :
    TakesTableCycles (opcodeOf i) (penaltyCycles i s.pc s) s (exec i s) := by
  cases i <;> simp only [opcodeOf, encode, List.headD_cons]
  case oraIzy | oraAbsy | oraAbsx | andIzy | andAbsy | andAbsx | eorIzy | eorAbsy | eorAbsx | adcIzy | adcAbsy
      | adcAbsx | sbcIzy | sbcAbsy | sbcAbsx | cmpIzy | cmpAbsy | cmpAbsx | ldaIzy | ldaAbsy | ldaAbsx | ldxAbsy
      | ldyAbsx | laxIzy | laxAbsy | nopAbsx1C | nopAbsx3C | nopAbsx5C | nopAbsx7C | nopAbsxDC | nopAbsxFC =>
    exact .readIndexed (fun _ _ => rfl) rfl
  case oraIzx | oraZp | oraImm | oraAbs | oraZpx | andIzx | andZp | andImm | andAbs | andZpx | eorIzx | eorZp
      | eorImm | eorAbs | eorZpx | adcIzx | adcZp | adcImm | adcAbs | adcZpx | sbcIzx | sbcZp | sbcImm | sbcImmEB
      | sbcAbs | sbcZpx | cmpIzx | cmpZp | cmpImm | cmpAbs | cmpZpx | cpxImm | cpxZp | cpxAbs | cpyImm | cpyZp
      | cpyAbs | bitZp | bitAbs | ldaIzx | ldaZp | ldaImm | ldaAbs | ldaZpx | ldxImm | ldxZp | ldxAbs | ldxZpy
      | ldyImm | ldyZp | ldyAbs | ldyZpx | laxIzx | laxZp | laxImm | laxAbs | laxZpy | alrImm | ancImm0B | ancImm2B
      | arrImm | axsImm | nopZp04 | nopZp44 | nopZp64 | nopAbs | nopZpx14 | nopZpx34 | nopZpx54 | nopZpx74
      | nopZpxD4 | nopZpxF4 | nopImm80 | nopImm82 | nopImm89 | nopImmC2 | nopImmE2 =>
    exact .readThen (fun _ _ => rfl) rfl
  case staIzx | staZp | staAbs | staIzy | staZpx | staAbsy | staAbsx | saxIzx | saxZp | saxAbs | saxZpy | styZp
      | styAbs | styZpx | stxZp | stxAbs | stxZpy => exact .next (writeOperand_lasts s _ _) rfl
  case sloIzx | sloZp | sloAbs | sloIzy | sloZpx | sloAbsy | sloAbsx | aslZp | aslAbs | aslZpx | aslAbsx
      | rlaIzx | rlaZp | rlaAbs | rlaIzy | rlaZpx | rlaAbsy | rlaAbsx | rolZp | rolAbs | rolZpx | rolAbsx
      | sreIzx | sreZp | sreAbs | sreIzy | sreZpx | sreAbsy | sreAbsx | lsrZp | lsrAbs | lsrZpx | lsrAbsx
      | rraIzx | rraZp | rraAbs | rraIzy | rraZpx | rraAbsy | rraAbsx | rorZp | rorAbs | rorZpx | rorAbsx
      | dcpIzx | dcpZp | dcpAbs | dcpIzy | dcpZpx | dcpAbsy | dcpAbsx | decZp | decAbs | decZpx | decAbsx
      | iscIzx | iscZp | iscAbs | iscIzy | iscZpx | iscAbsy | iscAbsx | incZp | incAbs | incZpx | incAbsx =>
    exact .next (modifyOperand_lasts s _ fun _ _ => rfl) rfl
  case aslAcc | rolAcc | lsrAcc | rorAcc => exact .next (modifyAcc_lasts s fun _ _ => rfl) rfl
  case clc | sec | cli | sei | dey | txa | tya | txs | tay | tax | clv | tsx | iny | dex | cld | inx | sed =>
    exact .next (impliedThen_lasts s fun _ => rfl) rfl
  case nopImp1A | nopImp3A | nopImp5A | nopImp7A | nopImpDA | nop | nopImpFA =>
    exact .next (Lasts.refl s).implied rfl
  case bpl | bmi | bvc | bvs | bcc | bcs | bne | beq =>
    rw [penaltyCycles_branch rfl]
    exact .branch rfl
  case pha | php => exact .next ((Lasts.refl s).implied.push _) rfl
  case pla => exact .next (opPla_lasts s) rfl
  case plp => exact .next (opPlp_lasts s) rfl
  case jmpAbs => exact .next ((Lasts.refl s).setPc _) rfl
  case jmpInd => exact .next (jmpInd_lasts s _) rfl
  case jsr => exact .next (opJsr_lasts s _) rfl
  case rts => exact .next (opRts_lasts s) rfl
  case rti => exact .next (returnFromInterrupt_lasts s) rfl
  case brk => exact .next (enterInterrupt_lasts s true) rfl
  case xaaImm => exact .underPolicy hu (.readThen (fun _ _ => rfl) rfl)
  case lasAbsy => exact .underPolicy hu (.readIndexed (fun _ _ => rfl) rfl)
  case ahxIzy | tasAbsy | shyAbsx | shxAbsy | ahxAbsy =>
    exact .underPolicy hu (.next (nopWriteOperand_lasts s _) rfl)
  case jam02 | jam12 | jam22 | jam32 | jam42 | jam52 | jam62 | jam72 | jam92 | jamB2 | jamD2 | jamF2 =>
    exact .underPolicy hj (.next (Lasts.refl s).implied rfl)

/-! ## The step -/

theorem State.policiesNop_iff (s : State) :
    s.policiesNop = true ↔ s.params.unstable = .nop ∧ s.params.jam = .nop := by
  simp only [State.policiesNop, Bool.and_eq_true, beq_iff_eq]

/-- The default policies refuse no opcode (rule R296). -/
theorem refuses_nop {q : Params} (hu : q.unstable = .nop) (hj : q.jam = .nop) (op : Byte) : refuses q op = false := by
  simp [refuses, hu, hj]

theorem operandFetches_nop {q : Params} (hu : q.unstable = .nop) (hj : q.jam = .nop) (op : Byte) :
    operandFetches q op + 1 = fetchedBytes op := by
  have hl := opLength_cases op
  rw [operandFetches, refuses_nop hu hj, fetchedBytes]
  simp only [Bool.false_eq_true, if_false]
  split <;> omega

theorem operandFetches_le (q : Params) (op : Byte) : operandFetches q op ≤ 2 := by
  have hl := opLength_cases op
  unfold operandFetches
  split_ifs <;> omega

/-- A fetch phase gives an instruction with the fetched opcode; under the default policies it takes a cycle for each
byte it reads, and stores nothing. -/
theorem fetchPhase_nop {s : State} (h : s.policiesNop = true) :
    opcodeOf (fetchPhase s).1 = (fetch s).1 ∧ Quiet (fetchedBytes (fetch s).1) s (fetchPhase s).2 := by
  obtain ⟨hu, hj⟩ := s.policiesNop_iff.1 h
  obtain ⟨b1, b2, hf, -, -⟩ := fetchPhase_eq (s := s) rfl (operandFetches_le _ _)
  rw [hf, ← operandFetches_nop hu hj]
  exact ⟨opcodeOf_instrOf _ _ _, fetchMany_quiet _ s⟩

/-- Settles O39: the fetches of the fetch phase and the cycles of the instruction add up to its row. -/
theorem stepTakesTableCycles : Obligations.StepTakesTableCycles := by
  intro s hat hpol op f
  obtain ⟨hop, hq⟩ := fetchPhase_nop hpol
  obtain ⟨hu, hj⟩ := s.policiesNop_iff.1 hpol
  rw [← hq.params] at hu hj
  obtain ⟨t, k, ht, hk, hsum⟩ := exec_takesTableCycles (fetchPhase s).1 hu hj
  rw [hop] at hsum
  refine ⟨t, by rw [step_instruction hat, ht], ?_⟩
  rw [cycles_trans hq.cycles hk, hsum]

end Sys2Proof.Machine

/-! Proofs for the family 40_addressing_modes: the address phase is Table 30-A's, and an instruction that is no control
transfer leaves PC past its own bytes. -/

namespace Sys2Proof.Machine

/-! ## The address phase (rules R134 to R140) -/

/-- In an indexed mode the address phase adds the register to the base, in full and with the base's high byte kept. -/
theorem addressPhase_indexBy {o : Operand} {s : State} {base : Word} {r : Byte} (h : indexed? o s = some (base, r)) :
    (addressPhase o s).1 = .indexBy base r := by
  cases o with
  | absx w => cases h; rfl
  | absy w => cases h; rfl
  | izy q => cases h; simp only [addressPhase, zeroPagePointer_value]
  | _ => cases h

/-- A mode with no index never crosses a page, so its unfixed address is the effective address. -/
theorem addressPhase_u_direct {o : Operand} {s : State} (h : indexed? o s = none) :
    (addressPhase o s).1.u = tableAddr o s := by
  have hc : (addressPhase o s).1.cross = false := by rw [addressPhase_cross, crossesPage, h]
  rw [addressPhase_u o s hc, addressPhase_ea]

theorem addressPhase_regs (o : Operand) (s : State) : (addressPhase o s).2.regs = s.regs :=
  congrArg Prod.fst (addressPhase_core o s)

/-- Settles O40: each part of the address phase against Table 30-A, the unfixed address by whether the mode is
indexed. -/
theorem effectiveAddressesAreTableThirtyA : Obligations.EffectiveAddressesAreTableThirtyA := by
  intro o s
  refine ⟨addressPhase_ea o s, addressPhase_cross o s, addressPhase_indexed o s, ?_, addressPhase_regs o s,
    (addressPhase_quiet o s).1, fun _ hb => readOperand_value hb, writeAddress_ea o s⟩
  split
  · next base r h => rw [addressPhase_indexBy h, EffAddr.indexBy]
  · next h => exact addressPhase_u_direct h

/-! ## What the access classes leave of PC -/

section
variable (s : State)

theorem readThen_pc (src : Source) {f : Byte → State → State} (hf : ∀ m u, (f m u).pc = u.pc) :
    (readThen src f s).pc = s.pc :=
  (hf _ _).trans (readOperand_pc src s)

theorem impliedThen_pc {f : State → State} (hf : ∀ u, (f u).pc = u.pc) : (impliedThen f s).pc = s.pc :=
  (hf _).trans (implied_pc s)

theorem modifyAcc_pc {f : Byte → State → Byte × State} (hf : ∀ m u, (f m u).2.pc = u.pc) :
    (modifyAcc f s).pc = s.pc :=
  (hf _ _).trans (implied_pc s)

@[simp] theorem writeOperand_pc (o : Operand) (v : Byte) : (writeOperand o v s).pc = s.pc :=
  (memWrite_pc _ v _).trans (writeAddress_pc o s)

@[simp] theorem nopWriteOperand_pc (o : Operand) : (nopWriteOperand o s).pc = s.pc :=
  (dummyRead_pc _ _).trans (writeAddress_pc o s)

theorem modifyOperand_pc (o : Operand) {f : Byte → State → Byte × State} (hf : ∀ m u, (f m u).2.pc = u.pc) :
    (modifyOperand o f s).pc = s.pc := by
  simp only [modifyOperand, memWrite_pc, hf, memRead_pc, writeAddress_pc]

@[simp] theorem pullAfterDummies_pc : (pullAfterDummies s).2.pc = s.pc := by
  simp only [pullAfterDummies, pull_pc, dummyRead_pc, implied_pc]

end

/-! ## PC past an instruction that is no control transfer (rule R162) -/

/-- The mnemonics of the instructions that set PC themselves. -/
def controlTransfers : List String :=
  ["BCC", "BCS", "BEQ", "BMI", "BNE", "BPL", "BVC", "BVS", "JMP", "JSR", "RTS", "RTI", "BRK"]

/-- A meaning that answers a next state and leaves PC where the fetch phase put it. -/
def KeepsPc (s : State) (r : Result) : Prop := ∃ t, r = .next t ∧ t.pc = s.pc

theorem KeepsPc.next {s t : State} (h : t.pc = s.pc) : KeepsPc s (.next t) := ⟨t, rfl, h⟩

/-- An opcode refused is no more than stuck on. -/
theorem KeepsPc.underPolicy {s : State} {q : OpcodePolicy} {op : Byte} {f : State → State} (h : (f s).pc = s.pc) :
    KeepsPc s (underPolicy q op f s) := by
  cases q with
  | nop => exact .next h
  | refuse => exact .next rfl

/-- No instruction but a control transfer writes PC, whatever the policies. -/
theorem exec_keepsPc {i : Instr} (s : State) (hi : mnemonicOf (opcodeOf i) ∉ controlTransfers) :
    KeepsPc s (exec i s) := by
  cases i
  case bpl | bmi | bvc | bvs | bcc | bcs | bne | beq | jmpAbs | jmpInd | jsr | rts | rti | brk =>
    simp only [opcodeOf, encode, List.headD_cons] at hi
    exact absurd (by decide +kernel) hi
  case oraIzx | oraZp | oraImm | oraAbs | oraIzy | oraZpx | oraAbsy | oraAbsx | andIzx | andZp | andImm | andAbs
      | andIzy | andZpx | andAbsy | andAbsx | eorIzx | eorZp | eorImm | eorAbs | eorIzy | eorZpx | eorAbsy | eorAbsx
      | adcIzx | adcZp | adcImm | adcAbs | adcIzy | adcZpx | adcAbsy | adcAbsx | sbcIzx | sbcZp | sbcImm | sbcImmEB
      | sbcAbs | sbcIzy | sbcZpx | sbcAbsy | sbcAbsx | cmpIzx | cmpZp | cmpImm | cmpAbs | cmpIzy | cmpZpx | cmpAbsy
      | cmpAbsx | cpxImm | cpxZp | cpxAbs | cpyImm | cpyZp | cpyAbs | bitZp | bitAbs | ldaIzx | ldaZp | ldaImm
      | ldaAbs | ldaIzy | ldaZpx | ldaAbsy | ldaAbsx | ldxImm | ldxZp | ldxAbs | ldxZpy | ldxAbsy | ldyImm | ldyZp
      | ldyAbs | ldyZpx | ldyAbsx | laxIzx | laxZp | laxImm | laxAbs | laxIzy | laxZpy | laxAbsy | ancImm0B | ancImm2B
      | alrImm | arrImm | axsImm | nopImm80 | nopImm82 | nopImm89 | nopImmC2 | nopImmE2 | nopZp04 | nopZp44 | nopZp64
      | nopZpx14 | nopZpx34 | nopZpx54 | nopZpx74 | nopZpxD4 | nopZpxF4 | nopAbs | nopAbsx1C | nopAbsx3C | nopAbsx5C
      | nopAbsx7C | nopAbsxDC | nopAbsxFC => exact .next (readThen_pc s _ fun _ _ => rfl)
  case staIzx | staZp | staAbs | staIzy | staZpx | staAbsy | staAbsx | stxZp | stxAbs | stxZpy | styZp | styAbs
      | styZpx | saxIzx | saxZp | saxAbs | saxZpy => exact .next (writeOperand_pc s _ _)
  case aslZp | aslAbs | aslZpx | aslAbsx | lsrZp | lsrAbs | lsrZpx | lsrAbsx | rolZp | rolAbs | rolZpx | rolAbsx
      | rorZp | rorAbs | rorZpx | rorAbsx | incZp | incAbs | incZpx | incAbsx | decZp | decAbs | decZpx | decAbsx
      | sloIzx | sloZp | sloAbs | sloIzy | sloZpx | sloAbsy | sloAbsx | rlaIzx | rlaZp | rlaAbs | rlaIzy | rlaZpx
      | rlaAbsy | rlaAbsx | sreIzx | sreZp | sreAbs | sreIzy | sreZpx | sreAbsy | sreAbsx | rraIzx | rraZp | rraAbs
      | rraIzy | rraZpx | rraAbsy | rraAbsx | dcpIzx | dcpZp | dcpAbs | dcpIzy | dcpZpx | dcpAbsy | dcpAbsx | iscIzx
      | iscZp | iscAbs | iscIzy | iscZpx | iscAbsy | iscAbsx => exact .next (modifyOperand_pc s _ fun _ _ => rfl)
  case aslAcc | lsrAcc | rolAcc | rorAcc => exact .next (modifyAcc_pc s fun _ _ => rfl)
  case tax | tay | txa | tya | tsx | txs | inx | iny | dex | dey | clc | sec | cli | sei | cld | sed | clv =>
    exact .next (impliedThen_pc s fun _ => rfl)
  case nop | nopImp1A | nopImp3A | nopImp5A | nopImp7A | nopImpDA | nopImpFA => exact .next (implied_pc s)
  case pha | php => exact .next ((push_pc _ _).trans (implied_pc s))
  case pla | plp => exact .next (pullAfterDummies_pc s)
  case xaaImm | lasAbsy => exact .underPolicy (readThen_pc s _ fun _ _ => rfl)
  case ahxIzy | ahxAbsy | shyAbsx | shxAbsy | tasAbsy => exact .underPolicy (nopWriteOperand_pc s _)
  case jam02 | jam12 | jam22 | jam32 | jam42 | jam52 | jam62 | jam72 | jam92 | jamB2 | jamD2 | jamF2 =>
    exact .underPolicy (implied_pc s)

/-- Under the default policies the fetch phase leaves PC past the bytes it read. -/
theorem fetchPhase_pc {s : State} (h : s.policiesNop = true) :
    (fetchPhase s).2.pc = s.pc + BitVec.ofNat 16 (fetchedBytes (fetch s).1) := by
  obtain ⟨hu, hj⟩ := s.policiesNop_iff.1 h
  obtain ⟨b1, b2, hf, -, -⟩ := fetchPhase_eq (s := s) rfl (operandFetches_le _ _)
  have hr := fetchMany_regs (operandFetches s.params (fetch s).1 + 1) s
  simp only [State.regs, Prod.mk.injEq] at hr
  obtain ⟨-, -, -, -, hpc, -⟩ := hr
  rw [hf, ← operandFetches_nop hu hj]
  exact hpc

/-- Every opcode but JSR's has all its bytes fetched before its own cycles (rules R131, R251). -/
theorem fetchedBytes_of_noControl {op : Byte} (h : mnemonicOf op ∉ controlTransfers) : fetchedBytes op = opLength op := by
  refine if_neg fun hjsr => h ?_
  rw [hjsr]
  decide +kernel

/-- Settles O38: the fetch phase moves PC past the instruction, and the instruction leaves it there. -/
theorem pcIsPastNonControlInstructions : Obligations.PcIsPastNonControlInstructions := by
  intro s hat hpol op hop
  obtain ⟨hcode, -⟩ := fetchPhase_nop hpol
  obtain ⟨t, ht, hpc⟩ := exec_keepsPc (i := (fetchPhase s).1) (fetchPhase s).2 (by rwa [hcode])
  refine ⟨t, by rw [step_instruction hat, ht], ?_⟩
  rw [hpc, fetchPhase_pc hpol, fetchedBytes_of_noControl hop]

end Sys2Proof.Machine

/-! Proofs for the family 41_load_store_transfer: the loads, the stores and the register transfers. -/

namespace Sys2Proof.Machine

/-! ## The forms of one operation -/

/-- A table of forms (opcode, instruction, operand) whose opcode column is that of Table 30-B and whose instructions all
run the operation `f` has every property `f` gives the instructions that run it. -/
theorem forms_of_columns {β : Type} {f : β → State → State} {s : State} {forms : List (Byte × Instr × β)}
    {P : Instr → β → Prop}
    (hcols : (forms.map fun r => (opcodeOf r.2.1, exec r.2.1 s)) = forms.map fun r => (r.1, .next (f r.2.2 s)))
    (hf : ∀ i o, exec i s = .next (f o s) → P i o) :
    ∀ (op : Byte) (i : Instr) (o : β), (op, i, o) ∈ forms → opcodeOf i = op ∧ P i o := by
  intro op i o hmem
  obtain ⟨hop, hexec⟩ := Prod.mk.inj (List.map_inj_left.1 hcols _ hmem)
  exact ⟨hop, hf i o hexec⟩

/-- Settles O41: every form runs its load, which reads its operand into the register. -/
theorem loadsPutOperandInRegister : Obligations.LoadsPutOperandInRegister := by
  intro s m a q w
  refine ⟨?lda, ?ldx, ?ldy, ?lax⟩
  case lda => exact forms_of_columns (f := opLda) (s := s) rfl fun _ _ => opLda_reads
  case ldx => exact forms_of_columns (f := opLdx) (s := s) rfl fun _ _ => opLdx_reads
  case ldy => exact forms_of_columns (f := opLdy) (s := s) rfl fun _ _ => opLdy_reads
  case lax => exact forms_of_columns (f := opLax) (s := s) rfl fun _ _ => opLax_reads

/-- Settles O42: every form is a `WriteOperand` of its register, which stores only that byte. -/
theorem storesWriteOneByte : Obligations.StoresWriteOneByte := by
  intro s a q w hw
  refine ⟨?sta, ?stx, ?sty, ?sax⟩
  case sta => exact forms_of_columns (f := opSta) (s := s) rfl fun _ _ => writes_of hw
  case stx => exact forms_of_columns (f := opStx) (s := s) rfl fun _ _ => writes_of hw
  case sty => exact forms_of_columns (f := opSty) (s := s) rfl fun _ _ => writes_of hw
  case sax => exact forms_of_columns (f := opSax) (s := s) rfl fun _ _ => writes_of hw

/-- Settles O43: each transfer is its register writes after one dummy read, which changes no register itself. -/
theorem transfersCopyRegisters : Obligations.TransfersCopyRegisters := by
  intro s op i r hmem
  simp only [List.mem_cons, List.not_mem_nil, or_false, Prod.mk.injEq] at hmem
  obtain ⟨rfl, rfl, rfl⟩ | ⟨rfl, rfl, rfl⟩ | ⟨rfl, rfl, rfl⟩ | ⟨rfl, rfl, rfl⟩ | ⟨rfl, rfl, rfl⟩ | ⟨rfl, rfl, rfl⟩ :=
    hmem <;> exact ⟨rfl, implied_of rfl (by simp) (by simp [State.regs])⟩

end Sys2Proof.Machine

/-! Proofs for the family 42_stack: the pushes of A and of the status image, and the pulls of A and of the flags. -/

namespace Sys2Proof.Machine

section
variable {i : Instr} {s : State}

/-- The dummy read of an implied instruction is one access, a read at PC (rule R132). -/
theorem implied_accesses (s : State) : (implied s).devices = (accesses [.read s.pc] s).devices := rfl

/-! ## The pushes (rules R190, R191) -/

/-- The pushed image has N V 1 b D I Z C from bit 7 down (rule R27), over all values of the seven. -/
theorem pack_getLsbD (p : Flags) (b : Bool) :
    (p.pack b).getLsbD 7 = p.n ∧ (p.pack b).getLsbD 6 = p.v ∧ (p.pack b).getLsbD 5 = true ∧
      (p.pack b).getLsbD 4 = b ∧ (p.pack b).getLsbD 3 = p.d ∧ (p.pack b).getLsbD 2 = p.i ∧
      (p.pack b).getLsbD 1 = p.z ∧ (p.pack b).getLsbD 0 = p.c := by
  obtain ⟨n, v, d, i, z, c⟩ := p
  revert n v d i z c b
  decide

/-- `Push(v)` after the dummy read: PHA with A, PHP with the image. -/
def impliedPush (v : Byte) (s : State) : State := push v (implied s)

theorem impliedPush_regs (v : Byte) (s : State) : (impliedPush v s).regs = (s.a, s.x, s.y, s.s - 1#8, s.pc, s.p) := by
  simp [State.regs, impliedPush]

theorem impliedPush_devices (v : Byte) (s : State) :
    (impliedPush v s).devices = (accesses [.read s.pc, .write (stackAddr s.s) v] s).devices := by
  have h := push_then v (implied_accesses s)
  rwa [implied_s] at h

/-- After the dummy read, which keeps the state well-formed and S where it was, the byte is the one byte pushed. -/
theorem impliedPush_stacks (v : Byte) (hw : s.wf = true) : StacksBytes [v] 2 s (impliedPush v s) :=
  (StacksBytes.ofQuiet (implied_quiet s) (implied_s s)).push v (by simp) ((BusRun.refl s).implied.wf hw)

/-- Everything an instruction that pushes `v` after the dummy read does. -/
theorem pushes_of {v : Byte} (hw : s.wf = true) (hi : exec i s = .next (impliedPush v s)) :
    ∃ t, exec i s = .next t ∧ t.regs = (s.a, s.x, s.y, s.s - 1#8, s.pc, s.p) ∧
      t.devices = (accesses [.read s.pc, .write (stackAddr s.s) v] s).devices ∧ StacksBytes [v] 2 s t :=
  ⟨_, hi, impliedPush_regs v s, impliedPush_devices v s, impliedPush_stacks v hw⟩

/-! ## The pulls (rules R192, R193) -/

/-- The dummy reads before the pull leave RAM and S, so the pulled byte is the one that was above S. -/
theorem pullAfterDummies_value (s : State) : (pullAfterDummies s).1 = stackByte s 1#8 := by
  have hram := ((implied_quiet s).trans (dummyRead_quiet (stackAddr (implied s).s) _)).ram
  rw [pullAfterDummies, pull_value, stackByte, hram, dummyRead_s, implied_s, stackByte]

theorem pullAfterDummies_regs (s : State) :
    (pullAfterDummies s).2.regs = (s.a, s.x, s.y, s.s + 1#8, s.pc, s.p) := by
  simp [State.regs, pullAfterDummies]

theorem pullAfterDummies_quiet (s : State) : Quiet 3 s (pullAfterDummies s).2 :=
  ((implied_quiet s).trans (dummyRead_quiet _ _)).trans (pull_quiet _)

theorem pullAfterDummies_devices (s : State) :
    (pullAfterDummies s).2.devices =
      (accesses [.read s.pc, .read (stackAddr s.s), .read (stackAddr (s.s + 1#8))] s).devices := by
  have h := pull_then (dummyRead_then (stackAddr (implied s).s) (implied_accesses s))
  simp only [dummyRead_s, implied_s] at h
  simp only [pullAfterDummies, implied_s]
  exact h

/-- Everything an instruction does that writes registers alone after the pull. -/
theorem pulls_of {t : State} {r : Regs} (hi : exec i s = .next t) (hd : t.devices = (pullAfterDummies s).2.devices)
    (hr : t.regs = r) :
    ∃ t, exec i s = .next t ∧ t.regs = r ∧
      t.devices = (accesses [.read s.pc, .read (stackAddr s.s), .read (stackAddr (s.s + 1#8))] s).devices ∧
      StoresNothing 3 s t :=
  ⟨t, hi, hr, hd.trans (pullAfterDummies_devices s), ((pullAfterDummies_quiet s).ofDevices hd).1⟩

theorem opPla_regs (s : State) :
    (opPla s).regs = (stackByte s 1#8, s.x, s.y, s.s + 1#8, s.pc, flagsNZ (stackByte s 1#8) s.p) := by
  have h := pullAfterDummies_regs s
  simp only [State.regs, Prod.mk.injEq] at h
  simp [State.regs, opPla, pullAfterDummies_value, h]

theorem opPlp_regs (s : State) :
    (opPlp s).regs = (s.a, s.x, s.y, s.s + 1#8, s.pc, Flags.unpack (stackByte s 1#8)) := by
  have h := pullAfterDummies_regs s
  simp only [State.regs, Prod.mk.injEq] at h
  simp [State.regs, opPlp, pullAfterDummies_value, h]

end

/-! ## The obligations -/

/-- Settles O44: PHA and PHP are one push after the dummy read, of A and of the image. -/
theorem pushesStoreAtStackPointer : Obligations.PushesStoreAtStackPointer := by
  refine ⟨fun s hw => ?_, pack_getLsbD⟩
  exact forms_of_columns (f := impliedPush) (s := s) rfl fun _ _ => pushes_of hw

/-- Settles O45: PLA and PLP write registers alone after the pull of the byte above S. -/
theorem pullsReadAboveStackPointer : Obligations.PullsReadAboveStackPointer := by
  intro s v op i r hmem
  simp only [List.mem_cons, List.not_mem_nil, or_false, Prod.mk.injEq] at hmem
  obtain ⟨rfl, rfl, rfl⟩ | ⟨rfl, rfl, rfl⟩ := hmem
  case inl => exact ⟨rfl, pulls_of rfl rfl (opPla_regs s)⟩
  case inr => exact ⟨rfl, pulls_of rfl rfl (opPlp_regs s)⟩

end Sys2Proof.Machine

/-! Proofs for the family 43_arithmetic_logic: the additions and logic on A, the compares, the steps of a byte of memory
and of an index register. -/

namespace Sys2Proof.Machine

/-! ## The steps of an index register (rules R213 to R216) -/

section
variable {i : Instr} {s : State}

/-- Everything an implied instruction does that puts `f` of X into X, with its N and Z. -/
theorem stepX_implied (f : Byte → Byte)
    (h : exec i s = .next (impliedThen (fun t => (t.setX (f t.x)).setNZ (f t.x)) s)) :
    Implied i s (s.a, f s.x, s.y, s.s, s.pc, flagsNZ (f s.x) s.p) :=
  implied_of h rfl (by simp [State.regs])

/-- Everything an implied instruction does that puts `f` of Y into Y, with its N and Z. -/
theorem stepY_implied (f : Byte → Byte)
    (h : exec i s = .next (impliedThen (fun t => (t.setY (f t.y)).setNZ (f t.y)) s)) :
    Implied i s (s.a, s.x, f s.y, s.s, s.pc, flagsNZ (f s.y) s.p) :=
  implied_of h rfl (by simp [State.regs])

end

/-! ## The obligations -/

/-- Settles O46: every form runs its addition, of the operand or of its complement. -/
theorem addAndSubtractAreBinary : Obligations.AddAndSubtractAreBinary := by
  intro s m a q w
  refine ⟨?adc, ?sbc⟩
  case adc => exact forms_of_columns (f := opAdc) (s := s) rfl fun _ _ => opAdc_reads
  case sbc => exact forms_of_columns (f := opSbc) (s := s) rfl fun _ _ => opSbc_reads

/-- Settles O47: every form runs its operation, which combines A with the operand read. -/
theorem logicCombinesAWithOperand : Obligations.LogicCombinesAWithOperand := by
  intro s m a q w
  refine ⟨?and, ?ora, ?eor⟩
  case and => exact forms_of_columns (f := opAnd) (s := s) rfl fun _ _ => opAnd_reads
  case ora => exact forms_of_columns (f := opOra) (s := s) rfl fun _ _ => opOra_reads
  case eor => exact forms_of_columns (f := opEor) (s := s) rfl fun _ _ => opEor_reads

/-- Settles O48: every form runs its comparison or bit test, which writes flags alone after the operand read. -/
theorem comparesSetFlagsOnly : Obligations.ComparesSetFlagsOnly := by
  intro s m a q w
  refine ⟨?cmp, ?cpx, ?cpy, ?bit⟩
  case cmp => exact forms_of_columns (f := opCmp) (s := s) rfl fun _ _ => opCmp_reads
  case cpx => exact forms_of_columns (f := opCpx) (s := s) rfl fun _ _ => opCpx_reads
  case cpy => exact forms_of_columns (f := opCpy) (s := s) rfl fun _ _ => opCpy_reads
  case bit => exact forms_of_columns (f := opBit) (s := s) rfl fun _ _ => opBit_reads

/-- Settles O49: every form runs its `ModifyOperand`, which stores the old byte and then the stepped one. -/
theorem incrementsAndDecrementsModifyMemory : Obligations.IncrementsAndDecrementsModifyMemory := by
  intro s a q w hw
  refine ⟨?inc, ?dec, ?dcp, ?isc⟩
  case inc => exact forms_of_columns (f := opInc) (s := s) rfl fun _ _ => opInc_modifies hw
  case dec => exact forms_of_columns (f := opDec) (s := s) rfl fun _ _ => opDec_modifies hw
  case dcp => exact forms_of_columns (f := opDcp) (s := s) rfl fun _ _ => opDcp_modifies hw
  case isc => exact forms_of_columns (f := opIsc) (s := s) rfl fun _ _ => opIsc_modifies hw

/-- Settles O50: each instruction is a step of X or of Y, by one up or down, after the dummy read. -/
theorem indexRegistersStepByOne : Obligations.IndexRegistersStepByOne := by
  intro s op i r hmem
  simp only [List.mem_cons, List.not_mem_nil, or_false, Prod.mk.injEq] at hmem
  obtain ⟨rfl, rfl, rfl⟩ | ⟨rfl, rfl, rfl⟩ | ⟨rfl, rfl, rfl⟩ | ⟨rfl, rfl, rfl⟩ := hmem
  · exact ⟨rfl, stepX_implied (· + 1#8) rfl⟩
  · exact ⟨rfl, stepY_implied (· + 1#8) rfl⟩
  · exact ⟨rfl, stepX_implied (· - 1#8) rfl⟩
  · exact ⟨rfl, stepY_implied (· - 1#8) rfl⟩

end Sys2Proof.Machine

/-! Proofs for the family 44_shift_rotate: the shifts and rotates of a byte of memory and of A. -/

namespace Sys2Proof.Machine

/-- Everything an instruction does that shifts A by `f`, where `f` gives the byte `v` and moves the bit `c` out: the
dummy read of mode `acc`, then A, C, N and Z (rules R132, R230). -/
theorem shiftAcc_implied {i : Instr} {s : State} {f : Bool → Byte → ShiftResult} {v : Byte} {c : Bool}
    (h : exec i s = .next (modifyAcc (shiftWith f) s)) (hf : f s.p.c s.a = ⟨v, c⟩) :
    Implied i s (v, s.x, s.y, s.s, s.pc, flagsNZ v { s.p with c := c }) :=
  implied_of (f := fun t => (shiftWith f t.a t).2.setA (shiftWith f t.a t).1) h rfl (by simp [State.regs, hf])

/-- Settles O51: every memory form runs its `ModifyOperand` of a shift, and every accumulator form the same shift of A
after the dummy read. -/
theorem shiftsMoveOneBit : Obligations.ShiftsMoveOneBit := by
  intro s a w hw c0
  refine ⟨?asl, ?lsr, ?rol, ?ror, ?acc⟩
  case asl => exact forms_of_columns (f := opAsl) (s := s) rfl fun _ _ => opAsl_modifies hw
  case lsr => exact forms_of_columns (f := opLsr) (s := s) rfl fun _ _ => opLsr_modifies hw
  case rol => exact forms_of_columns (f := opRol) (s := s) rfl fun _ _ => opRol_modifies hw
  case ror => exact forms_of_columns (f := opRor) (s := s) rfl fun _ _ => opRor_modifies hw
  case acc =>
    intro op i r hmem
    simp only [List.mem_cons, List.not_mem_nil, or_false, Prod.mk.injEq] at hmem
    obtain ⟨rfl, rfl, rfl⟩ | ⟨rfl, rfl, rfl⟩ | ⟨rfl, rfl, rfl⟩ | ⟨rfl, rfl, rfl⟩ := hmem
    · exact ⟨rfl, shiftAcc_implied (f := fun _ => aslByte) rfl (aslByte_eq _)⟩
    · exact ⟨rfl, shiftAcc_implied (f := fun _ => lsrByte) rfl (lsrByte_eq _)⟩
    · exact ⟨rfl, shiftAcc_implied (f := rolByte) rfl (rolByte_eq _ _)⟩
    · exact ⟨rfl, shiftAcc_implied (f := rorByte) rfl (rorByte_eq _ _)⟩

end Sys2Proof.Machine

/-! Proofs for the family 45_control_transfer: the jumps, the branches, and the subroutine call and return. -/

namespace Sys2Proof.Machine

/-- How JMP indirect, a taken branch, JSR and RTS end: a last read, then the write of PC, the one register changed. -/
theorem dummyRead_setPc_regs {t : State} {a x y sp : Byte} {pc : Word} {p : Flags} (h : t.regs = (a, x, y, sp, pc, p))
    (b w : Word) : ((dummyRead b t).setPc w).regs = (a, x, y, sp, w, p) := by
  simp only [State.regs, Prod.mk.injEq] at h
  simp [State.regs, h]

/-! ## JMP indirect (rules R240, R241) -/

section
variable (s : State) (ptr : Word)

theorem jmpInd_regs : (jmpInd ptr s).regs = (s.a, s.x, s.y, s.s, (jmpInd ptr s).pc, s.p) :=
  dummyRead_setPc_regs (dummyRead_regs ptr s) (pointerHigh ptr) _

theorem jmpInd_devices : (jmpInd ptr s).devices = (dummyRead (pointerHigh ptr) (dummyRead ptr s)).devices := rfl

theorem jmpInd_quiet : Quiet 2 s (jmpInd ptr s) :=
  ((dummyRead_quiet ptr s).trans (dummyRead_quiet (pointerHigh ptr) _)).ofDevices (jmpInd_devices s ptr)

/-- The first read changes no byte of memory, so the second one gives what stood at its address at entry. -/
theorem jmpInd_pc {l h : Byte} (hl : memByte s ptr = some l) (hh : memByte s (pointerHigh ptr) = some h) :
    (jmpInd ptr s).pc = mkWord h l := by
  have hh' : memByte (memRead ptr s).2 (pointerHigh ptr) = some h := ((memRead_quiet ptr s).memByte _).trans hh
  simp only [jmpInd, State.setPc_pc, memRead_value hl, memRead_value hh']

end

/-! ## The branches (rule R242) -/

section
variable (s : State) (off : Byte)

/-- The page of an address, as a number, is its high byte. -/
theorem samePage_eq (a b : Word) : (a.toNat / 0x100 == b.toNat / 0x100) = decide (hi a = hi b) := by
  rw [← hi_toNat, ← hi_toNat, Bool.eq_iff_iff, beq_iff_eq, decide_eq_true_iff, BitVec.toNat_inj]

theorem branch_taken_samePage (h : hi (s.pc + sext off) = hi s.pc) :
    branch true off s = (dummyRead s.pc s).setPc (s.pc + sext off) := by
  simp [branch, branchTarget, h]

theorem branch_taken_otherPage (h : hi (s.pc + sext off) ≠ hi s.pc) :
    branch true off s =
      (dummyRead (mkWord (hi s.pc) (lo (s.pc + sext off))) (dummyRead s.pc s)).setPc (s.pc + sext off) := by
  simp [branch, branchTarget, h]

/-- Everything an instruction does that runs the branch sequence on the condition `c`. -/
theorem branches_of {i : Instr} {c : Bool} (hrun : exec i s = .next (branch c off s)) :
    let target := s.pc + off.signExtend 16
    let samePage : Bool := target.toNat / 0x100 == s.pc.toNat / 0x100
    let read1 := dummyRead s.pc s
    let read2 := dummyRead (mkWord (hi s.pc) (lo target)) read1
    ∃ t, exec i s = .next t ∧ t.regs = (s.a, s.x, s.y, s.s, if c then target else s.pc, s.p) ∧
      t.devices = (if c then if samePage then read1 else read2 else s).devices ∧
      StoresNothing (if c then if samePage then 1 else 2 else 0) s t := by
  intro target samePage read1 read2
  refine ⟨_, hrun, ?_⟩
  cases c with
  | false => exact ⟨rfl, rfl, .refl s⟩
  | true =>
    have hsame : samePage = decide (hi target = hi s.pc) := samePage_eq target s.pc
    by_cases hpage : hi target = hi s.pc
    · rw [hsame, decide_eq_true hpage, branch_taken_samePage s off hpage]
      exact ⟨dummyRead_setPc_regs rfl _ _, rfl, (dummyRead_quiet s.pc s).1⟩
    · rw [hsame, decide_eq_false hpage, branch_taken_otherPage s off hpage]
      exact ⟨dummyRead_setPc_regs (dummyRead_regs s.pc s) _ _, rfl,
        ((dummyRead_quiet s.pc s).trans (dummyRead_quiet _ read1)).1⟩

end

/-! ## JSR (rule R251) -/

section
variable (s : State) (w : Word)

/-- JSR before its last read: the dummy read of the stack and the pushes of PC. -/
def jsrPushes : State := pushPc (dummyRead (stackAddr s.s) s)

theorem jsrPushes_regs : (jsrPushes s).regs = (s.a, s.x, s.y, s.s - 2#8, s.pc, s.p) := by
  simp only [jsrPushes, pushPc_core, dummyRead_a, dummyRead_x, dummyRead_y, dummyRead_s, dummyRead_pc, dummyRead_p]

theorem jsrPushes_pc : (jsrPushes s).pc = s.pc := congrArg (fun r => r.2.2.2.2.1) (jsrPushes_regs s)

theorem jsrPushes_stacks {s : State} (hw : s.wf = true) : StacksBytes [hi s.pc, lo s.pc] 3 s (jsrPushes s) := by
  have h := pushPc_stacks (((BusRun.refl s).dummyRead (stackAddr s.s)).wf hw)
  rw [dummyRead_pc] at h
  exact h.afterQuiet (dummyRead_quiet _ s) (dummyRead_s _ s)

theorem jsrPushes_devices : (jsrPushes s).devices = (accesses [.read (stackAddr s.s), .write (stackAddr s.s) (hi s.pc),
    .write (stackAddr (s.s - 1#8)) (lo s.pc)] s).devices := by
  have h := pushPc_then (t := dummyRead (stackAddr s.s) s) (l := [.read (stackAddr s.s)]) rfl
  rwa [dummyRead_s, dummyRead_pc] at h

theorem opJsr_eq : opJsr w s =
    (dummyRead s.pc (jsrPushes s)).setPc (mkWord (memRead s.pc (jsrPushes s)).1 (lo w)) := by
  rw [← jsrPushes_pc s]
  rfl

theorem opJsr_regs : (opJsr w s).regs = (s.a, s.x, s.y, s.s - 2#8, (opJsr w s).pc, s.p) := by
  rw [opJsr_eq]
  exact dummyRead_setPc_regs (jsrPushes_regs s) _ _

theorem opJsr_quiet : Quiet 1 (jsrPushes s) (opJsr w s) := by
  rw [opJsr_eq]
  exact dummyRead_quiet s.pc (jsrPushes s)

theorem opJsr_stacks {s : State} (hw : s.wf = true) : StacksBytes [hi s.pc, lo s.pc] 4 s (opJsr w s) :=
  (jsrPushes_stacks hw).thenQuiet (opJsr_quiet s w) (by simp [opJsr_eq])

theorem opJsr_devices : (opJsr w s).devices = (accesses [.read (stackAddr s.s), .write (stackAddr s.s) (hi s.pc),
    .write (stackAddr (s.s - 1#8)) (lo s.pc), .read s.pc] s).devices := by
  rw [opJsr_eq, devices_setPc]
  exact dummyRead_then s.pc (jsrPushes_devices s)

/-- The third byte is read after the pushes, and the read leaves it where it was. -/
theorem opJsr_pc {h : Byte} (hb : memByte (opJsr w s) s.pc = some h) : (opJsr w s).pc = mkWord h (lo w) := by
  rw [(opJsr_quiet s w).memByte] at hb
  rw [opJsr_eq, State.setPc_pc, memRead_value hb]

/-- JSR leaves every byte the two pushes do not reach. -/
theorem opJsr_memByte {s : State} {a : Word} (hw : s.wf = true) (h1 : sameCell a (stackAddr s.s) = false)
    (h2 : sameCell a (stackAddr (s.s - 1#8)) = false) : memByte (opJsr w s) a = memByte s a := by
  obtain ⟨-, -, -, hframe, -⟩ := opJsr_stacks w hw
  refine hframe a fun k => ?_
  match k with
  | 0 => simpa using h1
  | 1 => exact h2

end

/-! ## RTS (rule R252) -/

theorem pullWord_then {s t : State} {l : List Access} (h : t.devices = (accesses l s).devices) :
    (pullWord t).2.devices =
      (accesses (l ++ [.read (stackAddr (t.s + 1#8))] ++ [.read (stackAddr (t.s + 2#8))]) s).devices := by
  have h2 := pull_then (pull_then h)
  rw [pull_s, BitVec.add_assoc] at h2
  exact h2

section
variable (s : State)

/-- RTS before its last read: the dummy reads at PC and of the stack, and the pulled word. -/
def rtsPull : Word × State := pullWord (dummyRead (stackAddr s.s) (implied s))

theorem rtsPull_word : (rtsPull s).1 = mkWord (stackByte s 2#8) (stackByte s 1#8) := by
  have hram := ((implied_quiet s).trans (dummyRead_quiet (stackAddr s.s) _)).ram
  simp only [rtsPull, pullWord_value, stackByte, hram, dummyRead_s, implied_s]

theorem rtsPull_regs : (rtsPull s).2.regs = (s.a, s.x, s.y, s.s + 2#8, s.pc, s.p) := by
  simp [State.regs, rtsPull, pullWord, BitVec.add_assoc]

theorem rtsPull_devices : (rtsPull s).2.devices = (accesses [.read s.pc, .read (stackAddr s.s),
    .read (stackAddr (s.s + 1#8)), .read (stackAddr (s.s + 2#8))] s).devices := by
  have h := pullWord_then (dummyRead_then (stackAddr s.s) (implied_accesses s))
  rwa [dummyRead_s, implied_s] at h

theorem rtsPull_quiet : Quiet 4 s (rtsPull s).2 :=
  ((implied_quiet s).trans (dummyRead_quiet _ _)).trans (pullWord_quiet _)

theorem opRts_eq : opRts s = (dummyRead (rtsPull s).1 (rtsPull s).2).setPc ((rtsPull s).1 + 1#16) := by
  simp only [opRts, rtsPull, implied_s]

theorem opRts_regs : (opRts s).regs = (s.a, s.x, s.y, s.s + 2#8, (rtsPull s).1 + 1#16, s.p) := by
  rw [opRts_eq]
  exact dummyRead_setPc_regs (rtsPull_regs s) _ _

theorem opRts_devices : (opRts s).devices = (accesses [.read s.pc, .read (stackAddr s.s), .read (stackAddr (s.s + 1#8)),
    .read (stackAddr (s.s + 2#8)), .read (rtsPull s).1] s).devices := by
  rw [opRts_eq, devices_setPc]
  exact dummyRead_then _ (rtsPull_devices s)

theorem opRts_quiet : Quiet 5 s (opRts s) := by
  rw [opRts_eq]
  exact (rtsPull_quiet s).trans (dummyRead_quiet _ _)

end

/-! ## The obligations -/

/-- Settles O52: JMP absolute is the write of PC alone, JMP indirect its two reads and then PC. -/
theorem jmpSetsPc : Obligations.JmpSetsPc := by
  intro s w
  exact ⟨rfl, rfl, rfl, _, rfl, jmpInd_devices s w, (jmpInd_quiet s w).1, jmpInd_regs s w, fun _ _ => jmpInd_pc s w⟩

/-- Settles O53: every branch runs the branch sequence on its condition. -/
theorem branchesGoToTheirTarget : Obligations.BranchesGoToTheirTarget := by
  intro s off
  exact forms_of_columns (f := fun c => branch c off) (s := s) rfl fun _ _ => branches_of s off

/-- Settles O54: JSR is its pushes and then the read of the third byte; RTS its pulls and then the read at the pulled
word. -/
theorem subroutineCallAndReturn : Obligations.SubroutineCallAndReturn := by
  intro s w
  refine ⟨⟨rfl, fun hw => ⟨_, rfl, opJsr_regs s w, opJsr_stacks w hw, opJsr_devices s w, fun _ => opJsr_pc s w,
    ?jsrTarget⟩⟩, rfl, _, rfl, ?rts⟩
  case jsrTarget =>
    intro h1 h2 hb
    rw [opJsr_pc s w ((opJsr_memByte w hw h1 h2).trans hb), mkWord_hi_lo]
  case rts =>
    rw [← rtsPull_word]
    exact ⟨opRts_regs s, opRts_devices s, (opRts_quiet s).1⟩

end Sys2Proof.Machine

/-! Proofs for the family 46_flags_system: the flag instructions and the implied NOPs, BRK, and RTI. -/

namespace Sys2Proof.Machine

/-! ## The flag instructions and the implied NOPs (rules R260 to R267) -/

section
variable {i : Instr} {s : State}

/-- Everything an implied instruction does whose effect is to write `f` of P into P. -/
theorem setFlags_implied (f : Flags → Flags) (h : exec i s = .next (impliedThen (fun t => t.setP (f t.p)) s)) :
    Implied i s (s.a, s.x, s.y, s.s, s.pc, f s.p) :=
  implied_of h rfl (by simp [State.regs])

/-- An instruction that is its dummy read alone changes no register. -/
theorem nop_implied (h : exec i s = .next (implied s)) : Implied i s s.regs :=
  implied_of (f := id) h rfl (dummyRead_regs s.pc s)

end

/-! ## BRK (rules R268, R332) -/

/-- The vector choice looks at the pending NMI alone, so it may be read off the accesses of the two pushes. -/
theorem hijackVector_of_devices {s t : State} (h : t.devices = s.devices) :
    hijackVector t = if s.nmiPending then 0xFFFA#16 else 0xFFFE#16 := by
  rw [hijackVector, nmiPending_of_devices h]
  rfl

/-- Both vectors an entry can take lie above RAM, and neither wraps around the address space. -/
theorem hijackVector_range (s : State) : 0x2000 ≤ (hijackVector s).toNat ∧ (hijackVector s).toNat < 0xFFFF := by
  unfold hijackVector
  split <;> decide

theorem pushPc_devices (s : State) : (pushPc s).devices =
    (accesses [.write (stackAddr s.s) (hi s.pc), .write (stackAddr (s.s - 1#8)) (lo s.pc)] s).devices :=
  pushPc_then (l := []) rfl

/-- The accesses of an entry after its vector choice, from a machine `c` that has seen those before it. -/
theorem enterInterrupt_devices {s c : State} (b : Bool) (h : (pushPc s).devices = c.devices) :
    (enterInterrupt b s).devices =
      (accesses [.write (stackAddr (s.s - 2#8)) (s.p.pack b), .read (hijackVector (pushPc s)),
        .read (hijackVector (pushPc s) + 1#16)] { c with nmiPending := false }).devices := by
  have hregs := pushPc_core s
  simp only [State.regs, Prod.mk.injEq] at hregs
  obtain ⟨-, -, -, hs, -, hp⟩ := hregs
  have he := enterVector_then (l := []) b (hijackVector (pushPc s)) (clearNmi_devices h)
  rw [← hs, ← hp]
  exact he

/-- What an entry saves, keeps and sets, and where PC goes: `enterVector_spec` at the vector chosen. -/
theorem enterInterrupt_spec {s : State} (hw : s.wf = true) (b : Bool) :
    let t := enterInterrupt b s
    t.a = s.a ∧ t.x = s.x ∧ t.y = s.y ∧ t.p = { s.p with i := true } ∧
      StacksBytes [hi s.pc, lo s.pc, s.p.pack b] 5 s t ∧ ∀ w, VectorShows s (hijackVector (pushPc s)) w → t.pc = w := by
  obtain ⟨hlow, hhigh⟩ := hijackVector_range (pushPc s)
  exact enterVector_spec hw b false hlow hhigh

/-! ## RTI (rule R269) -/

section
variable (s : State)

/-- RTI is PLP and then the pull of PC. -/
theorem returnFromInterrupt_eq :
    returnFromInterrupt s = (pullWord (opPlp s)).2.setPc (pullWord (opPlp s)).1 := rfl

theorem opPlp_quiet : Quiet 3 s (opPlp s) := pullAfterDummies_quiet s

theorem opPlp_devices :
    (opPlp s).devices = (accesses [.read s.pc, .read (stackAddr s.s), .read (stackAddr (s.s + 1#8))] s).devices :=
  pullAfterDummies_devices s

theorem opPlp_s : (opPlp s).s = s.s + 1#8 := congrArg (fun r => r.2.2.2.1) (opPlp_regs s)

/-- The bytes of PC lie above the pulled image, and pulling that changes no byte of RAM. -/
theorem opPlp_stackByte (k : Byte) : stackByte (opPlp s) k = stackByte s (1#8 + k) := by
  rw [stackByte, (opPlp_quiet s).ram, opPlp_s, BitVec.add_assoc, stackByte]

theorem returnFromInterrupt_regs : (returnFromInterrupt s).regs =
    (s.a, s.x, s.y, s.s + 3#8, mkWord (stackByte s 3#8) (stackByte s 2#8), Flags.unpack (stackByte s 1#8)) := by
  have hregs := opPlp_regs s
  simp only [State.regs, Prod.mk.injEq] at hregs
  have hword : (pullWord (opPlp s)).1 = mkWord (stackByte s 3#8) (stackByte s 2#8) := by
    rw [pullWord_value, opPlp_stackByte, opPlp_stackByte]
    rfl
  rw [returnFromInterrupt_eq, hword]
  simp [State.regs, pullWord, hregs, BitVec.add_assoc]

theorem returnFromInterrupt_devices : (returnFromInterrupt s).devices =
    (accesses [.read s.pc, .read (stackAddr s.s), .read (stackAddr (s.s + 1#8)), .read (stackAddr (s.s + 2#8)),
      .read (stackAddr (s.s + 3#8))] s).devices := by
  have h := pullWord_then (opPlp_devices s)
  rw [opPlp_s, BitVec.add_assoc, BitVec.add_assoc] at h
  rw [returnFromInterrupt_eq, devices_setPc]
  exact h

theorem returnFromInterrupt_quiet : Quiet 5 s (returnFromInterrupt s) :=
  (opPlp_quiet s).trans (pullWord_quiet _)

end

/-! ## The obligations -/

/-- Settles O11: BRK is the entry with B set, and what its accesses show of the pending NMI decides the vector. -/
theorem brkEntersWithBSet : Obligations.BrkEntersWithBSet := by
  intro s pad hw afterCycle4 vec
  have hpushed : (pushPc s).devices = afterCycle4.devices := pushPc_devices s
  have hvec : hijackVector (pushPc s) = vec := hijackVector_of_devices hpushed
  obtain ⟨ha, hx, hy, hp, hstack, hpc⟩ := enterInterrupt_spec hw true
  have hdev := enterInterrupt_devices true hpushed
  rw [hvec] at hpc hdev
  exact ⟨rfl, _, rfl, ha, hx, hy, hp, hstack, hdev, hpc⟩

/-- Settles O13: RTI is PLP and then the pull of PC, and the image unpacks to the six flags. -/
theorem rtiRestoresFlagsAndPc : Obligations.RtiRestoresFlagsAndPc := fun s =>
  ⟨rfl, _, rfl, returnFromInterrupt_regs s, returnFromInterrupt_devices s, (returnFromInterrupt_quiet s).1⟩

/-- Settles O55: each flag instruction writes its flag after the dummy read, and each NOP is the dummy read alone. -/
theorem flagInstructionsSetOneFlag : Obligations.FlagInstructionsSetOneFlag := by
  intro s op i r hmem
  simp only [List.mem_cons, List.not_mem_nil, or_false, Prod.mk.injEq] at hmem
  obtain ⟨rfl, rfl, rfl⟩ | ⟨rfl, rfl, rfl⟩ | ⟨rfl, rfl, rfl⟩ | ⟨rfl, rfl, rfl⟩ | ⟨rfl, rfl, rfl⟩ | ⟨rfl, rfl, rfl⟩ |
    ⟨rfl, rfl, rfl⟩ | hnop := hmem
  · exact ⟨rfl, setFlags_implied (fun p => { p with c := false }) rfl⟩
  · exact ⟨rfl, setFlags_implied (fun p => { p with c := true }) rfl⟩
  · exact ⟨rfl, setFlags_implied (fun p => { p with i := false }) rfl⟩
  · exact ⟨rfl, setFlags_implied (fun p => { p with i := true }) rfl⟩
  · exact ⟨rfl, setFlags_implied (fun p => { p with d := false }) rfl⟩
  · exact ⟨rfl, setFlags_implied (fun p => { p with d := true }) rfl⟩
  · exact ⟨rfl, setFlags_implied (fun p => { p with v := false }) rfl⟩
  · obtain ⟨rfl, rfl, rfl⟩ | ⟨rfl, rfl, rfl⟩ | ⟨rfl, rfl, rfl⟩ | ⟨rfl, rfl, rfl⟩ | ⟨rfl, rfl, rfl⟩ | ⟨rfl, rfl, rfl⟩ |
      ⟨rfl, rfl, rfl⟩ := hnop <;> exact ⟨rfl, nop_implied rfl⟩

end Sys2Proof.Machine

/-! Proofs for the family 47_unofficial: the shifts that combine, the combinations with an immediate, the NOPs with an
operand, and the policy opcodes, run as NOPs or refused. -/

namespace Sys2Proof.Machine

section
variable {i : Instr} {src : Source} {o : Operand} {s : State}

/-! ## The combinations with an immediate (rules R290 to R293) -/

theorem opAlr_reads (h : exec i s = .next (opAlr src s)) :
    let M := operandByte src s
    Reads i src s (let v := (s.a &&& M) >>> 1
      (v, s.x, s.y, s.s, s.pc, flagsNZ v { s.p with c := (s.a &&& M).getLsbD 0 })) :=
  reads_of h rfl (by simp [State.regs])

theorem opAnc_reads (h : exec i s = .next (opAnc src s)) :
    let M := operandByte src s
    Reads i src s (let v := s.a &&& M; (v, s.x, s.y, s.s, s.pc, flagsNZ v { s.p with c := v.getLsbD 7 })) :=
  reads_of h rfl (by simp [State.regs, flagsNZ])

theorem opArr_reads (h : exec i s = .next (opArr src s)) :
    let M := operandByte src s
    Reads i src s (let v := ((s.a &&& M) >>> 1) ||| (BitVec.ofNat 8 s.p.c.toNat <<< 7)
      (v, s.x, s.y, s.s, s.pc, flagsNZ v { s.p with c := v.getLsbD 6, v := v.getLsbD 6 ^^ v.getLsbD 5 })) :=
  reads_of h rfl (by simp [State.regs, flagsNZ])

theorem opAxs_reads (h : exec i s = .next (opAxs src s)) :
    let M := operandByte src s
    Reads i src s (s.a, (s.a &&& s.x) - M, s.y, s.s, s.pc, flagsCompare (s.a &&& s.x) M s.p) :=
  reads_of h rfl (by simp [State.regs])

/-! ## The policy opcodes as NOPs (rules R296 to R303) -/

theorem underPolicy_of_nop {q : OpcodePolicy} {op : Byte} {run : State → State} (hq : q = .nop) :
    underPolicy q op run s = .next (run s) := by
  rw [hq]
  rfl

theorem underPolicy_of_refuse {q : OpcodePolicy} {op : Byte} {run : State → State} (hq : q = .refuse) :
    underPolicy q op run s = .next { s with stuck := some op } := by
  rw [hq]
  rfl

/-- Everything an instruction does that is a write sequence with a read in place of the write (rule R296). -/
theorem nopWriteOperand_spec (h : exec i s = .next (nopWriteOperand o s)) :
    ∃ t, exec i s = .next t ∧ t.regs = s.regs ∧
      t.devices = (dummyRead (tableAddr o s) (writeAddress o s).2).devices ∧ StoresNothing (writeCycles o s) s t := by
  have hq := (writeAddress_quiet o s).trans (dummyRead_quiet (writeAddress o s).1 _)
  rw [writeCycles_pos] at hq
  refine ⟨_, h, (dummyRead_regs _ _).trans (writeAddress_regs o s), ?_, hq.1⟩
  rw [nopWriteOperand, writeAddress_ea]

/-- `forms_of_columns` for forms that run their operation under a policy, where the policy is `nop`. -/
theorem policyForms_of_columns {β : Type} {q : OpcodePolicy} {f : β → State → State} {forms : List (Byte × Instr × β)}
    {P : Instr → β → Prop} (hq : q = .nop)
    (hcols : (forms.map fun r => (opcodeOf r.2.1, exec r.2.1 s)) =
      forms.map fun r => (r.1, underPolicy q r.1 (f r.2.2) s))
    (hf : ∀ i o, exec i s = .next (f o s) → P i o) :
    ∀ (op : Byte) (i : Instr) (o : β), (op, i, o) ∈ forms → opcodeOf i = op ∧ P i o := by
  simp only [underPolicy_of_nop hq] at hcols
  exact forms_of_columns hcols hf

end

/-! ## The policy opcodes refused (rules R296, R303, R343) -/

section
variable {s : State} {op : Byte}

/-- The opcodes of the unstable and of the JAM group whose policy is `refuse` are those `refuses` names. -/
theorem refuses_iff {q : Params} :
    refuses q op = true ↔
      (op ∈ [0x8B#8, 0x93#8, 0x9B#8, 0x9C#8, 0x9E#8, 0x9F#8, 0xBB#8] ∧ q.unstable = .refuse) ∨
        (op ∈ [0x02#8, 0x12#8, 0x22#8, 0x32#8, 0x42#8, 0x52#8, 0x62#8, 0x72#8, 0x92#8, 0xB2#8, 0xD2#8, 0xF2#8] ∧
          q.jam = .refuse) := by
  simp only [refuses, isUnstable, isJam, Bool.or_eq_true, Bool.and_eq_true, beq_iff_eq, List.mem_cons,
    List.not_mem_nil, or_false, or_assoc]

/-- The instruction of a refused opcode, whatever its operand bytes, does no more than stick on the opcode. -/
theorem exec_refused (h : refuses s.params op = true) (b1 b2 : Byte) :
    exec (instrOf op b1 b2) s = .next { s with stuck := some op } := by
  obtain ⟨hop, hq⟩ | ⟨hop, hq⟩ := refuses_iff.1 h <;>
    simp only [List.mem_cons, List.not_mem_nil, or_false] at hop
  case inl =>
    obtain rfl | rfl | rfl | rfl | rfl | rfl | rfl := hop <;> exact underPolicy_of_refuse hq
  case inr =>
    obtain rfl | rfl | rfl | rfl | rfl | rfl | rfl | rfl | rfl | rfl | rfl | rfl := hop <;> exact underPolicy_of_refuse hq

/-- The fetch phase of a refused opcode is its opcode fetch alone. -/
theorem fetchPhase_refused (h : refuses s.params (fetch s).1 = true) :
    ∃ b1 b2, fetchPhase s = (instrOf (fetch s).1 b1 b2, (fetch s).2) := by
  obtain ⟨b1, b2, hf, -, -⟩ := fetchPhase_eq (s := s) (n := 0) (if_pos h) (Nat.zero_le 2)
  exact ⟨b1, b2, hf⟩

/-- A step on a refused opcode fetches it and sticks on it. -/
theorem step_refusedOpcode (hat : s.atInstruction = true) (h : refuses s.params (fetch s).1 = true) :
    step s = .next { (fetch s).2 with stuck := some (fetch s).1 } := by
  obtain ⟨b1, b2, hf⟩ := fetchPhase_refused h
  rw [← fetch_params] at h
  rw [step_instruction hat, hf, exec_refused h]

theorem step_stuck (hr : s.resetReq = false) (hs : s.stuck = some op) : step s = .refused (.opcodeRefused op) := by
  simp [step, cpuStep, hr, hs]

theorem State.atInstruction_resetReq (h : s.atInstruction = true) : s.resetReq = false := by
  simp only [State.atInstruction, Bool.and_eq_true, Bool.not_eq_true'] at h
  obtain ⟨⟨⟨⟨hr, -⟩, -⟩, -⟩, -⟩ := h
  exact hr

end

/-! ## The obligations -/

/-- Settles O56: every form runs its `ModifyOperand`, which shifts the byte and combines the new one with A. -/
theorem shiftAndCombineUseTheNewByte : Obligations.ShiftAndCombineUseTheNewByte := by
  intro s a q w hw
  refine ⟨?slo, ?rla, ?sre, ?rra⟩
  case slo => exact forms_of_columns (f := opSlo) (s := s) rfl fun _ _ => opSlo_modifies hw
  case rla => exact forms_of_columns (f := opRla) (s := s) rfl fun _ _ => opRla_modifies hw
  case sre => exact forms_of_columns (f := opSre) (s := s) rfl fun _ _ => opSre_modifies hw
  case rra => exact forms_of_columns (f := opRra) (s := s) rfl fun _ _ => opRra_modifies hw

/-- Settles O57: every form runs its combination, which reads its operand and then writes one register and flags. -/
theorem immediateCombinationsSetTheirFlags : Obligations.ImmediateCombinationsSetTheirFlags := by
  intro s m
  refine ⟨?alr, ?anc, ?arr, ?axs⟩
  case alr => exact forms_of_columns (f := opAlr) (s := s) rfl fun _ _ => opAlr_reads
  case anc => exact forms_of_columns (f := opAnc) (s := s) rfl fun _ _ => opAnc_reads
  case arr => exact forms_of_columns (f := opArr) (s := s) rfl fun _ _ => opArr_reads
  case axs => exact forms_of_columns (f := opAxs) (s := s) rfl fun _ _ => opAxs_reads

/-- Settles O58: every form is the read of its operand alone. -/
theorem operandNopsReadAndDiscard : Obligations.OperandNopsReadAndDiscard := by
  intro s m a w
  exact forms_of_columns (f := opNop) (s := s) rfl fun _ _ => opNop_reads

/-- Settles O59: under `nop` each opcode runs the NOP of its class. -/
theorem policyOpcodesRunAsNops : Obligations.PolicyOpcodesRunAsNops := by
  intro s m q w
  refine ⟨fun hu => ⟨?reads, ?nopWrites⟩, fun hj => ?jams⟩
  case reads => exact policyForms_of_columns (f := opNop) (s := s) hu rfl fun _ _ => opNop_reads
  case nopWrites => exact policyForms_of_columns (f := nopWriteOperand) (s := s) hu rfl fun _ _ => nopWriteOperand_spec
  case jams =>
    intro op i hmem
    simp only [List.mem_cons, List.not_mem_nil, or_false, Prod.mk.injEq] at hmem
    obtain ⟨rfl, rfl⟩ | ⟨rfl, rfl⟩ | ⟨rfl, rfl⟩ | ⟨rfl, rfl⟩ | ⟨rfl, rfl⟩ | ⟨rfl, rfl⟩ | ⟨rfl, rfl⟩ | ⟨rfl, rfl⟩ |
      ⟨rfl, rfl⟩ | ⟨rfl, rfl⟩ | ⟨rfl, rfl⟩ | ⟨rfl, rfl⟩ := hmem <;> exact ⟨rfl, nop_implied (underPolicy_of_nop hj)⟩

/-- Settles O60: the step is the opcode fetch and the stuck mark, and a stuck core only serves a reset. -/
theorem refusedOpcodeSticksUntilReset : Obligations.RefusedOpcodeSticksUntilReset := by
  intro s hat op hop
  have hreq : (fetch s).2.resetReq = false := (fetch_resetReq s).trans (State.atInstruction_resetReq hat)
  exact ⟨_, step_refusedOpcode hat (refuses_iff.2 hop), rfl, fetchMany_regs 1 s, (fetch_quiet s).keepsMemory,
    fetch_cycles s, step_stuck hreq rfl, step_reset rfl⟩

end Sys2Proof.Machine

/-! Proofs for the family 60_exceptions and the devices beside it: the priorities of a step and that it never stops, the
interrupt entries, stall cycles and DMA, the PPU, the APU and the controllers, the mappers, and what no step changes. -/

namespace Sys2Proof.Machine

/-! ## A step by its priorities (rules R320, R325, R326) -/

section
variable {s : State}

theorem step_stall (hr : s.resetReq = false) (hu : s.stuck = none) (h : 0 < s.stall) :
    step s = .next (stallCycle s) := by
  simp [step, cpuStep, hr, hu, h]

theorem step_nmi (hr : s.resetReq = false) (hu : s.stuck = none) (h : s.stall = 0) (hn : s.nmiPending = true) :
    step s = .next (nmiSequence s) := by
  simp [step, cpuStep, hr, hu, h, hn]

theorem step_irq (hr : s.resetReq = false) (hu : s.stuck = none) (h : s.stall = 0) (hn : s.nmiPending = false)
    (hq : s.irqSample = true) (hi : s.p.i = false) : step s = .next (irqSequence s) := by
  simp [step, cpuStep, hr, hu, h, hn, State.irqDue, hq, hi]

theorem State.atInstruction_of (hr : s.resetReq = false) (hu : s.stuck = none) (h : s.stall = 0)
    (hn : s.nmiPending = false) (hq : s.irqSample = false ∨ s.p.i = true) : s.atInstruction = true := by
  obtain hq | hi := hq
  · simp [State.atInstruction, State.irqDue, hr, hu, h, hn, hq]
  · simp [State.atInstruction, State.irqDue, hr, hu, h, hn, hi]

end

/-- Settles O6: the step by its priorities, one lemma each. -/
theorem stepFollowsPriorities : Obligations.StepFollowsPriorities := fun _ =>
  ⟨step_reset, fun hr hu => ⟨step_stall hr hu, fun hs => ⟨step_nmi hr hu hs, fun hn =>
    ⟨step_irq hr hu hs hn, fun hq => step_instruction (State.atInstruction_of hr hu hs hn hq)⟩⟩⟩⟩

/-! ## Every step has a next one (rules R343, R346) -/

/-- Everything one stall cycle of a DMA job can do: nothing, a bus read, a byte put into OAM, or a bus read into the
DMC's sample buffer (rules R362, R366). -/
theorem DmaJob.cycle_cases (j : DmaJob) (s : State) :
    (j.cycle s).2 = s ∨ (∃ a, (j.cycle s).2 = (busRead a s).2) ∨
      (∃ i d, (j.cycle s).2 = { s with ppu := s.ppu.oamPut i d }) ∨
      ∃ a d, (j.cycle s).2 = { (busRead a s).2 with apu := { (busRead a s).2.apu with dmcBuffer := d } } := by
  cases j with
  | oam page align pos latch =>
    simp only [DmaJob.cycle, oamDmaCycle]
    split_ifs
    · exact .inl rfl
    · exact .inr (.inl ⟨_, rfl⟩)
    · exact .inr (.inr (.inl ⟨_, _, rfl⟩))
  | dmc addr pos =>
    simp only [DmaJob.cycle, dmcDmaCycle]
    split_ifs
    · exact .inl rfl
    · exact .inr (.inr (.inr ⟨addr, _, rfl⟩))

/-- So it changes no register, no parameter, no request. -/
theorem DmaJob.cycle_core (j : DmaJob) (s : State) : (j.cycle s).2.core = s.core := by
  obtain h | ⟨a, h⟩ | ⟨i, d, h⟩ | ⟨a, d, h⟩ := j.cycle_cases s <;> rw [h]
  · exact busRead_core a s
  · rfl
  · exact busRead_core a s

theorem dmaCycle_core (s : State) : (dmaCycle s).core = s.core := by
  unfold dmaCycle
  split
  · rfl
  · exact DmaJob.cycle_core _ s

theorem stallCycle_core (s : State) : (stallCycle s).core = s.core := dmaCycle_core _

theorem core_params {s t : State} (h : t.core = s.core) : t.params = s.params := congrArg (fun k => k.2.1) h
theorem core_resetReq {s t : State} (h : t.core = s.core) : t.resetReq = s.resetReq := congrArg (fun k => k.2.2.1) h
theorem core_stuck {s t : State} (h : t.core = s.core) : t.stuck = s.stuck := congrArg (fun k => k.2.2.2.1) h
theorem core_regs {s t : State} (h : t.core = s.core) : t.regs = s.regs := congrArg (fun k => k.1) h

/-- A reset keeps the parameters, and under the default policies leaves no refused opcode behind (rule R402). -/
theorem resetSequence_unstuck {s : State} (hu : s.params.unstable = .nop) (hj : s.params.jam = .nop) :
    (resetSequence s).params = s.params ∧ (resetSequence s).stuck = none := by
  obtain ⟨t, run, ht⟩ := resetSequence_run s
  obtain ⟨hcore, -, -⟩ := resetStart_core s
  simp only [State.core, Prod.mk.injEq] at hcore
  obtain ⟨-, hparams, -, hstuck, -⟩ := hcore
  rw [ht]
  refine ⟨run.params.trans hparams, (run.stuck ?_ ?_).trans hstuck⟩ <;> rw [hparams] <;> assumption

/-- Progress: under the default policies a core that is not stuck has a next state, which is not stuck either. -/
theorem step_progress {s : State} (hp : s.policiesNop = true) (hs : s.stuck = none) :
    ∃ t, step s = .next t ∧ t.params = s.params ∧ t.stuck = none := by
  obtain ⟨hu, hj⟩ := s.policiesNop_iff.1 hp
  obtain ⟨op, -, hop, -⟩ | ⟨-, h⟩ | ⟨-, -, -, h⟩ | ⟨-, -, -, t, h, run⟩ := step_cases s
  · rw [hs] at hop
    cases hop
  · exact ⟨_, h, resetSequence_unstuck hu hj⟩
  · exact ⟨_, h, core_params (stallCycle_core s), (core_stuck (stallCycle_core s)).trans hs⟩
  · exact ⟨t, h, run.params, (run.stuck hu hj).trans hs⟩

/-- Settles O35: progress at every step, since no step changes the policies. -/
theorem theCoreNeverStops : Obligations.TheCoreNeverStops := by
  intro n
  induction n with
  | zero => exact fun s _ hs => ⟨s, rfl, hs⟩
  | succ n ih =>
    intro s hp hs
    obtain ⟨t, hstep, hparams, hstuck⟩ := step_progress hp hs
    obtain ⟨u, hrun, hu⟩ := ih t (by rwa [State.policiesNop, hparams]) hstuck
    exact ⟨u, (run_next Sys2Proof.core hstep).trans hrun, hu⟩

/-! ## The state after reset, and words of Table 30-B -/

/-- Settles O7: `State.reset` evaluated. -/
theorem resetStateIsTableTenB : Obligations.ResetStateIsTableTenB :=
  ⟨rfl, rfl, ⟨rfl, rfl⟩, rfl, rfl, rfl, rfl, rfl, rfl, rfl, rfl, rfl⟩

/-- Settles O4: each word is the encoding of its instruction, so decoding undoes it. -/
theorem writtenWordsDecode : Obligations.WrittenWordsDecode := by
  have hdecode (i : Instr) : decode (encode i) = .ok (i, []) := by
    have h := decodeUndoesEncode i []
    rwa [List.append_nil] at h
  intro p hp
  suffices hword : p.1 = encode p.2 by rw [hword, hdecode]
  revert p hp
  simp only [List.forall_mem_cons, List.not_mem_nil, false_imp_iff, implies_true, and_true]
  exact ⟨rfl, rfl, rfl, rfl, rfl, rfl, rfl, rfl, rfl, rfl, rfl, rfl, rfl, rfl, rfl, rfl, rfl, rfl⟩

/-! ## Interrupt entry (rules R330 to R332) -/

/-- Cycles 1 and 2 of an interrupt sequence: two reads at PC (rule R330). -/
def entryReads (s : State) : State := dummyRead s.pc (dummyRead s.pc s)

section
variable (s : State)

theorem entryReads_regs : (entryReads s).regs = s.regs := (dummyRead_regs _ _).trans (dummyRead_regs _ _)

theorem entryReads_quiet : Quiet 2 s (entryReads s) := (dummyRead_quiet _ _).trans (dummyRead_quiet _ _)

theorem entryReads_devices : (entryReads s).devices = (accesses [.read s.pc, .read s.pc] s).devices := rfl

theorem entryReads_wf {s : State} (h : s.wf = true) : (entryReads s).wf = true :=
  (((BusRun.refl s).dummyRead _).dummyRead _).wf h

theorem pushPc_entryReads_regs : (pushPc (entryReads s)).regs = (s.a, s.x, s.y, s.s - 2#8, s.pc, s.p) := by
  have hregs := entryReads_regs s
  simp only [State.regs, Prod.mk.injEq] at hregs
  obtain ⟨ha, hx, hy, hs, hpc, hp⟩ := hregs
  rw [pushPc_core, ha, hx, hy, hs, hpc, hp]

/-- Cycles 1 to 4 of an interrupt sequence. -/
theorem pushPc_entryReads_devices : (pushPc (entryReads s)).devices =
    (accesses [.read s.pc, .read s.pc, .write (stackAddr s.s) (hi s.pc), .write (stackAddr (s.s - 1#8)) (lo s.pc)]
      s).devices := by
  have h := pushPc_then (entryReads_devices s)
  have hregs := entryReads_regs s
  simp only [State.regs, Prod.mk.injEq] at hregs
  obtain ⟨-, -, -, hs, hpc, -⟩ := hregs
  rwa [hs, hpc] at h

theorem VectorShows.ofQuiet {s t : State} {n : Nat} {vec w : Word} (h : VectorShows s vec w) (hq : Quiet n s t) :
    VectorShows t vec w :=
  ⟨(hq.memByte _).trans h.1, (hq.memByte _).trans h.2⟩

/-- Cycles 1 to 7 of an entry: what `enterVector_spec` says, from before the two reads at PC. -/
theorem entry_of_spec {s t : State} {b : Bool} {vec : Word}
    (h : let u := entryReads s
      t.a = u.a ∧ t.x = u.x ∧ t.y = u.y ∧ t.p = { u.p with i := true } ∧
        StacksBytes [hi u.pc, lo u.pc, u.p.pack b] 5 u t ∧ ∀ w, VectorShows u vec w → t.pc = w) :
    t.a = s.a ∧ t.x = s.x ∧ t.y = s.y ∧ t.p = { s.p with i := true } ∧
      StacksBytes [hi s.pc, lo s.pc, s.p.pack b] 7 s t ∧ ∀ w, VectorShows s vec w → t.pc = w := by
  have hq := entryReads_quiet s
  have hregs := entryReads_regs s
  simp only [State.regs, Prod.mk.injEq] at hregs
  obtain ⟨ha, hx, hy, hs, hpc, hp⟩ := hregs
  dsimp only at h
  rw [ha, hx, hy, hp, hpc] at h
  obtain ⟨ta, tx, ty, tp, hstack, hvec⟩ := h
  exact ⟨ta, tx, ty, tp, .afterQuiet hq hs hstack, fun w hw => hvec w (hw.ofQuiet hq)⟩

end

/-- Settles O9: the IRQ sequence is two reads at PC and the entry BRK has, with B clear. -/
theorem irqEntrySavesPcAndStatus : Obligations.IrqEntrySavesPcAndStatus := by
  intro s hw hr hu hs hn hq hi afterCycle4 vec
  have hpushed : (pushPc (entryReads s)).devices = afterCycle4.devices := pushPc_entryReads_devices s
  have hvec : hijackVector (pushPc (entryReads s)) = vec := hijackVector_of_devices hpushed
  obtain ⟨ha, hx, hy, hp, hstack, hpc⟩ := entry_of_spec (enterInterrupt_spec (entryReads_wf hw) false)
  have hdev := enterInterrupt_devices false hpushed
  have hregs := entryReads_regs s
  simp only [State.regs, Prod.mk.injEq] at hregs
  obtain ⟨-, -, -, hsp, -, hflags⟩ := hregs
  rw [hvec, hsp, hflags] at hdev
  rw [hvec] at hpc
  exact ⟨_, step_irq hr hu hs hn hq hi, ha, hx, hy, hp, hstack, hdev, hpc⟩

/-! ### With NMI disabled at the PPU an entry raises none -/

/-- A push writes RAM, which is not the PPU. -/
theorem NmiKept.push {s t : State} (h : NmiKept s t) (d : Byte) : NmiKept s (push d t) := by
  have hr := stackAddr_range t.s
  have hw := busWrite_ram d t (a := stackAddr t.s) (by omega)
  have hbus : NmiKept t (busWrite (stackAddr t.s) d t) := by
    rw [hw]
    exact ⟨rfl, fun _ => rfl⟩
  exact (h.trans (hbus.trans (endCycle_nmiKept _))).setS _

theorem pushPc_nmiKept (s : State) : NmiKept s (pushPc s) := (NmiKept.push ⟨rfl, fun _ => rfl⟩ _).push _

theorem enterVector_nmiKept (b : Bool) (vec : Word) (s : State) : NmiKept s (enterVector b vec s) :=
  ((NmiKept.push ⟨rfl, fun _ => rfl⟩ _).setP _).trans (loadVector_nmiKept vec _)

theorem entryReads_nmiKept (s : State) : NmiKept s (entryReads s) := (memRead_nmiKept _ s).dummyRead _

theorem nmiSequence_nmiKept (s : State) : NmiKept { s with nmiPending := false } (nmiSequence s) :=
  ((entryReads_nmiKept _).trans (pushPc_nmiKept _)).trans (enterVector_nmiKept false nmiVector _)

/-- The accesses of an NMI sequence, from the state with the latch cleared. -/
theorem nmiSequence_devices (s : State) : (nmiSequence s).devices =
    (accesses [.read s.pc, .read s.pc, .write (stackAddr s.s) (hi s.pc), .write (stackAddr (s.s - 1#8)) (lo s.pc),
      .write (stackAddr (s.s - 2#8)) (s.p.pack false), .read 0xFFFA#16, .read 0xFFFB#16]
      { s with nmiPending := false }).devices := by
  have hdev := enterVector_then false nmiVector (pushPc_entryReads_devices { s with nmiPending := false })
  have hregs := pushPc_entryReads_regs { s with nmiPending := false }
  simp only [State.regs, Prod.mk.injEq] at hregs
  obtain ⟨-, -, -, hsp, -, hp⟩ := hregs
  rw [hsp, hp] at hdev
  exact hdev

/-- Settles O10: the NMI sequence clears the latch, then makes an entry whose vector does not depend on it. -/
theorem nmiEntrySavesPcAndStatus : Obligations.NmiEntrySavesPcAndStatus := by
  intro s hw hr hu hs hn
  have hcw : ({ s with nmiPending := false } : State).wf = true := hw
  obtain ⟨ha, hx, hy, hp, hstack, hpc⟩ := entry_of_spec (t := nmiSequence s)
    (enterVector_spec (entryReads_wf hcw) false (pushPc (entryReads { s with nmiPending := false })).nmiPending
      (vec := nmiVector) (by decide) (by decide))
  obtain ⟨-, hkept⟩ := nmiSequence_nmiKept s
  exact ⟨_, step_nmi hr hu hs hn, ha, hx, hy, hp, hstack, nmiSequence_devices s, hpc, hkept⟩

/-! ### The NMI edges of an entry -/

/-- A cycle latches a rising edge of the NMI line (rule R322). -/
theorem endCycle_nmiPending (s : State) :
    (endCycle s).nmiPending = (s.nmiPending || ((endCycle s).nmiPrev && !s.nmiPrev)) := rfl

theorem memRead_nmiPending (a : Word) (s : State) :
    (memRead a s).2.nmiPending = (s.nmiPending || ((memRead a s).2.nmiPrev && !s.nmiPrev)) := by
  obtain ⟨hpending, hprev, -⟩ := deviceRead_latches a.toNat s
  have h := endCycle_nmiPending (busRead a s).2
  rwa [show (busRead a s).2.nmiPending = s.nmiPending from hpending,
    show (busRead a s).2.nmiPrev = s.nmiPrev from hprev] at h

theorem push_nmiPending (d : Byte) (s : State) :
    (push d s).nmiPending = (s.nmiPending || ((push d s).nmiPrev && !s.nmiPrev)) := by
  have hr := stackAddr_range s.s
  have h := endCycle_nmiPending (busWrite (stackAddr s.s) d s)
  have hw := busWrite_ram d s (a := stackAddr s.s) (by omega)
  rwa [show (busWrite (stackAddr s.s) d s).nmiPending = s.nmiPending by rw [hw],
    show (busWrite (stackAddr s.s) d s).nmiPrev = s.nmiPrev by rw [hw]] at h

theorem loadVector_nmiPending (v : Word) (s : State) :
    (loadVector v s).nmiPending =
      (s.nmiPending || ((memRead v s).2.nmiPrev && !s.nmiPrev) ||
        ((memRead (v + 1#16) (memRead v s).2).2.nmiPrev && !(memRead v s).2.nmiPrev)) := by
  rw [← memRead_nmiPending v s]
  exact memRead_nmiPending (v + 1#16) (memRead v s).2

/-- Cycles 5 to 7 of an entry, with the image of the flags the entry found. -/
theorem enterInterrupt_eq (b : Bool) (s : State) :
    enterInterrupt b s = loadVector (hijackVector (pushPc s))
      ((push (s.p.pack b) { pushPc s with nmiPending := false }).setP { s.p with i := true }) := by
  have hregs := pushPc_core s
  simp only [State.regs, Prod.mk.injEq] at hregs
  obtain ⟨-, -, -, -, -, hp⟩ := hregs
  simp only [enterInterrupt, enterVector, push_p, hp]

/-- Settles O12: the entry's frame at the vector chosen, and an edge of the NMI line cycle by cycle. -/
theorem hijackTakesNmiVectorOnce : Obligations.HijackTakesNmiVectorOnce := by
  intro s b hw u vec c5 c6 c7 t
  have hvec : hijackVector u = vec := hijackVector_of_devices rfl
  obtain ⟨-, -, -, hp, ⟨-, -, hbytes, -⟩, hpc⟩ := enterInterrupt_spec hw b
  rw [hvec] at hpc
  refine ⟨fun pad => rfl, rfl, hp, hbytes ⟨2, by simp⟩, hpc, ?_⟩
  have hc5 : c5.nmiPending = (c5.nmiPrev && !u.nmiPrev) := push_nmiPending _ { u with nmiPending := false }
  have ht := congrArg State.nmiPending (enterInterrupt_eq b s)
  rw [hvec, loadVector_nmiPending, State.setP_nmiPending, State.setP_nmiPrev, hc5] at ht
  exact ht

/-! ## Stall cycles (rule R321) -/

/-- What a DMA cycle keeps: all that CPU addresses show, the platform, and every chip but OAM. -/
def KeepsAllButOam (s t : State) : Prop :=
  KeepsPlatform s t ∧ (∀ a, memByte t a = memByte s a) ∧ t.ram = s.ram ∧ t.cart.prgRam = s.cart.prgRam ∧
    t.cart.chr = s.cart.chr ∧ t.ppu.palette = s.ppu.palette ∧ t.ppu.vram = s.ppu.vram

theorem KeepsAllButOam.refl (s : State) : KeepsAllButOam s s :=
  ⟨⟨rfl, rfl, rfl, rfl, rfl, rfl, rfl, rfl, rfl, rfl, rfl⟩, fun _ => rfl, rfl, rfl, rfl, rfl, rfl⟩

theorem KeepsAllButOam.trans {s t u : State} (h : KeepsAllButOam s t) (k : KeepsAllButOam t u) :
    KeepsAllButOam s u := by
  obtain ⟨h1, h2, h3, h4, h5, h6, h7⟩ := h
  obtain ⟨k1, k2, k3, k4, k5, k6, k7⟩ := k
  exact ⟨h1.trans k1, fun a => (k2 a).trans (h2 a), k3.trans h3, k4.trans h4, k5.trans h5, k6.trans h6, k7.trans h7⟩

theorem Quiet.keepsAllButOam {n : Nat} {s t : State} (h : Quiet n s t) : KeepsAllButOam s t := by
  have hchips := h.chips
  simp only [State.chips, List.cons.injEq, and_true] at hchips
  obtain ⟨hram, -, hprgRam, hchr, -, hpalette, hvram⟩ := hchips
  exact ⟨h.1.1, h.memByte, hram, hprgRam, hchr, hpalette, hvram⟩

theorem DmaJob.cycle_keepsAllButOam (j : DmaJob) (s : State) : KeepsAllButOam s (j.cycle s).2 := by
  obtain h | ⟨a, h⟩ | ⟨i, d, h⟩ | ⟨a, d, h⟩ := j.cycle_cases s <;> rw [h]
  · exact .refl s
  · exact (busRead_quiet a s).keepsAllButOam
  · exact .refl s
  · exact (busRead_quiet a s).keepsAllButOam

theorem dmaCycle_keepsAllButOam (s : State) : KeepsAllButOam s (dmaCycle s) := by
  unfold dmaCycle
  split
  · exact .refl s
  · exact DmaJob.cycle_keepsAllButOam _ s

theorem stallCycle_keepsAllButOam (s : State) : KeepsAllButOam s (stallCycle s) :=
  (dmaCycle_keepsAllButOam { s with stall := s.stall - 1 }).trans (endCycle_quiet _).keepsAllButOam

theorem stallCycle_memByte (s : State) (a : Word) : memByte (stallCycle s) a = memByte s a :=
  (stallCycle_keepsAllButOam s).2.1 a

theorem Ppu.regRead_oamAddr (p : Ppu) (c : Cart) (ob : Byte) (r : Nat) : (p.regRead c ob r).2.oamAddr = p.oamAddr := by
  unfold Ppu.regRead Ppu.statusRead Ppu.dataRead Ppu.advanceV
  split
  · rfl
  · rfl
  · dsimp only
    split <;> rfl
  · rfl

theorem busRead_oamAddr (a : Word) (s : State) : (busRead a s).2.ppu.oamAddr = s.ppu.oamAddr := by
  show (deviceRead a.toNat s).2.ppu.oamAddr = _
  unfold deviceRead
  split_ifs
  · rfl
  · exact Ppu.regRead_oamAddr _ _ _ _
  all_goals rfl

/-- The clock, the free values' counter, the stall counter, OAMADDR and whether the DMC is active: no DMA work changes
them. -/
def SameClock (s t : State) : Prop :=
  t.cycles = s.cycles ∧ t.free = s.free ∧ t.stall = s.stall ∧ t.ppu.oamAddr = s.ppu.oamAddr ∧
    t.apu.dmcActive = s.apu.dmcActive

theorem busRead_sameClock (a : Word) (s : State) : SameClock s (busRead a s).2 := by
  obtain ⟨-, -, hactive, hfree, -⟩ := deviceRead_latches a.toNat s
  exact ⟨busRead_cycles a s, hfree, (busRead_dma a s).2, busRead_oamAddr a s, hactive⟩

theorem DmaJob.cycle_sameClock (j : DmaJob) (s : State) : SameClock s (j.cycle s).2 := by
  obtain h | ⟨a, h⟩ | ⟨i, d, h⟩ | ⟨a, d, h⟩ := j.cycle_cases s <;> rw [h]
  · exact ⟨rfl, rfl, rfl, rfl, rfl⟩
  · exact busRead_sameClock a s
  · exact ⟨rfl, rfl, rfl, rfl, rfl⟩
  · exact busRead_sameClock a s

theorem dmaCycle_sameClock (s : State) : SameClock s (dmaCycle s) := by
  unfold dmaCycle
  split
  · exact ⟨rfl, rfl, rfl, rfl, rfl⟩
  · exact DmaJob.cycle_sameClock _ s

theorem dmaCycle_idle {s : State} (h : s.dma = []) : dmaCycle s = s := by
  simp only [dmaCycle, h]

theorem stallCycle_cycles (s : State) : (stallCycle s).cycles = s.cycles + 1#64 := by
  obtain ⟨hcycles, -⟩ := dmaCycle_sameClock { s with stall := s.stall - 1 }
  rw [stallCycle, endCycle_cycles, hcycles]

theorem stallCycle_oamAddr (s : State) : (stallCycle s).ppu.oamAddr = s.ppu.oamAddr := by
  obtain ⟨-, -, -, haddr, -⟩ := dmaCycle_sameClock { s with stall := s.stall - 1 }
  exact (runDots_fields _ _ _).2.trans haddr

theorem stallCycle_stall (s : State) :
    (stallCycle s).stall = s.stall - 1 + (if s.apu.dmcRequests s.free then 4 else 0) := by
  obtain ⟨-, hfree, hstall, -, hactive⟩ := dmaCycle_sameClock { s with stall := s.stall - 1 }
  have hreq : (dmaCycle { s with stall := s.stall - 1 }).apu.dmcRequests
      (dmaCycle { s with stall := s.stall - 1 }).free = s.apu.dmcRequests s.free := by
    rw [Apu.dmcRequests, hactive, hfree, Apu.dmcRequests]
  rw [stallCycle, endCycle]
  dsimp only
  rw [hreq, hstall]
  split <;> rfl

/-- Settles O14: a stall cycle is at most one bus read or one OAM byte, and the end of its cycle. -/
theorem stallCycleOnlyStalls : Obligations.StallCycleOnlyStalls := by
  intro s hr hu hs
  obtain ⟨hplatform, hmem, hram, hprgRam, hchr, hpalette, hvram⟩ := stallCycle_keepsAllButOam s
  refine ⟨_, step_stall hr hu hs, core_regs (stallCycle_core s), stallCycle_cycles s, stallCycle_stall s, hplatform,
    hmem, hram, hprgRam, hchr, hpalette, hvram, stallCycle_keepsNmi, fun hd => ?_⟩
  have hidle : dmaCycle { s with stall := s.stall - 1 } = { s with stall := s.stall - 1 } := dmaCycle_idle hd
  rw [stallCycle, hidle]
  rfl

/-! ## Writes of 0x4014 (rule R362) -/

theorem busWrite_oamDma (d : Byte) (s : State) :
    busWrite 0x4014#16 d s = { s with
      stall := s.stall + (513 + s.cycles.toNat % 2)
      dma := s.dma ++ [.oam d (1 + s.cycles.toNat % 2) 0 0#8]
      openBus := d } := by
  rw [← Nat.add_assoc]
  rfl

/-- Alignments alternate with the stamps, through the wrap of the cycle counter too. -/
theorem odd_succ (c : BitVec 64) : (c + 1#64).toNat % 2 = (c.toNat + 1) % 2 := by
  rw [BitVec.toNat_add, BitVec.toNat_ofNat]
  omega

/-- A write cycle at 0x4014 with the DMC inactive. -/
theorem memWrite_oamDma (d : Byte) {s : State} (h : s.apu.dmcActive = false) :
    (memWrite 0x4014#16 d s).apu.dmcActive = false ∧
      (memWrite 0x4014#16 d s).stall = s.stall + (513 + s.cycles.toNat % 2) ∧
      (memWrite 0x4014#16 d s).dma = s.dma ++ [.oam d (1 + s.cycles.toNat % 2) 0 0#8] := by
  rw [memWrite, busWrite_oamDma]
  exact endCycle_owesNothing _ h

/-- INC of an absolute address: the read, the old byte written back, the new byte written (rule R151). -/
theorem exec_incAbs (w : Word) (s : State) :
    exec (.incAbs w) s = .next (memWrite w ((memRead w s).1 + 1#8)
      ((memWrite w (memRead w s).1 (memRead w s).2).setNZ ((memRead w s).1 + 1#8))) := rfl

/-- Settles O15: one job for each write of 0x4014, stamped with its cycle. -/
theorem writeTo4014StartsOamDma : Obligations.WriteTo4014StartsOamDma := by
  intro s
  refine ⟨fun d => busWrite_oamDma d s, fun a d ha => ?other, fun hd => ⟨⟨_, rfl, ?sta⟩, ⟨_, exec_incAbs _ s, ?inc⟩⟩⟩
  case other =>
    have hne : a.toNat ≠ 0x4014 := fun h => ha (BitVec.eq_of_toNat_eq h)
    obtain ⟨hdma, hstall⟩ := deviceWrite_dma d s hne
    exact ⟨hstall, hdma⟩
  case sta =>
    obtain ⟨-, hstall, hdma⟩ := memWrite_oamDma s.a hd
    exact ⟨hstall.trans (Nat.add_assoc ..).symm, hdma⟩
  case inc =>
    have hbyte : (memRead 0x4014#16 s).1 = s.openBus :=
      congrArg Prod.fst (busRead_undriven (a := 0x4014#16)
        (deviceRead_apuUndriven s (by decide) (by decide) (.inl (by decide))))
    obtain ⟨ha1, hstall1, hdma1⟩ := memRead_owesNothing 0x4014#16 s hd
    obtain ⟨ha2, hstall2, hdma2⟩ := memWrite_oamDma s.openBus ha1
    obtain ⟨-, hstall3, hdma3⟩ := memWrite_oamDma (s.openBus + 1#8)
      (s := (memWrite 0x4014#16 s.openBus (memRead 0x4014#16 s).2).setNZ (s.openBus + 1#8)) ha2
    rw [State.setNZ_stall, State.setNZ_cycles, memWrite_cycles, hstall2, hstall1, odd_succ, memRead_cycles] at hstall3
    rw [State.setNZ_dma, State.setNZ_cycles, memWrite_cycles, hdma2, hdma1, odd_succ, memRead_cycles] at hdma3
    have hodd := odd_succ s.cycles
    rw [hbyte, hstall3, hdma3]
    refine ⟨by omega, ?_⟩
    rw [hodd, show ((s.cycles + 1#64).toNat + 1) % 2 = s.cycles.toNat % 2 by omega, List.append_assoc]
    rfl

/-! ## Runs of stall cycles with one transfer queued -/

/-- From `s`, with the DMC inactive, `k` steps that were all stall cycles lead to `t`. -/
structure Stalled (k : Nat) (s t : State) : Prop where
  run : Host.Core.run Sys2Proof.core k s = .next t
  core : t.core = s.core
  dmcIdle : t.apu.dmcActive = false
  stall : s.stall = t.stall + k
  cycles : t.cycles = s.cycles + BitVec.ofNat 64 k
  memByte : ∀ a, memByte t a = memByte s a
  oamAddr : t.ppu.oamAddr = s.ppu.oamAddr
  wf : s.wf = true → t.wf = true

theorem Stalled.refl {s : State} (h : s.apu.dmcActive = false) : Stalled 0 s s :=
  ⟨rfl, rfl, h, rfl, (BitVec.add_zero _).symm, fun _ => rfl, rfl, id⟩

/-- One stall cycle more. -/
theorem Stalled.cycle {k : Nat} {s t : State} (h : Stalled k s t) (hr : s.resetReq = false) (hu : s.stuck = none)
    (hk : k < s.stall) : Stalled (k + 1) s (stallCycle t) := by
  have hstall := h.stall
  have hlast := stallCycle_stall t
  obtain ⟨-, -, -, -, hactive⟩ := dmaCycle_sameClock { t with stall := t.stall - 1 }
  rw [Apu.dmcRequests, h.dmcIdle, Bool.false_and, if_neg Bool.false_ne_true] at hlast
  exact {
    run := run_last Sys2Proof.core h.run
      (step_stall ((core_resetReq h.core).trans hr) ((core_stuck h.core).trans hu) (by omega))
    core := (stallCycle_core t).trans h.core
    dmcIdle := (endCycle_owesNothing _ (hactive.trans h.dmcIdle)).1
    stall := by omega
    cycles := cycles_trans h.cycles (stallCycle_cycles t)
    memByte := fun a => (stallCycle_memByte t a).trans (h.memByte a)
    oamAddr := (stallCycle_oamAddr t).trans h.oamAddr
    wf := fun hw => stallCycle_wf (h.wf hw) }

/-- What the cycle of the one queued job leaves of the queue, the latch, OAM and the sample buffer is what the stall
cycle leaves. -/
theorem stallCycle_job {s : State} {job : DmaJob} (hd : s.apu.dmcActive = false) (h : s.dma = [job]) :
    let r := job.cycle { s with stall := s.stall - 1 }
    (stallCycle s).dma = (if r.1.owed = 0 then [] else [r.1]) ∧ (stallCycle s).openBus = r.2.openBus ∧
      (stallCycle s).ppu.oam = r.2.ppu.oam ∧ (stallCycle s).apu.dmcBuffer = r.2.apu.dmcBuffer := by
  obtain ⟨-, -, -, -, hactive⟩ := dmaCycle_sameClock { s with stall := s.stall - 1 }
  obtain ⟨-, -, hdma⟩ := endCycle_owesNothing _ (hactive.trans hd)
  have hcycle := dmaCycle_cons (s := { s with stall := s.stall - 1 }) h
  obtain ⟨hoam, -⟩ := runDots_mem (dmaCycle { s with stall := s.stall - 1 }).free
    (dmaCycle { s with stall := s.stall - 1 }).ppu (dmaCycle { s with stall := s.stall - 1 }).cart.mapper
  refine ⟨hdma.trans ?_, ?_, hoam.trans ?_, ?_⟩
  · rw [hcycle]
  · rw [stallCycle, hcycle]
    rfl
  · rw [hcycle]
  · rw [stallCycle, hcycle]
    rfl

/-! ### A DMC fetch (rule R366) -/

/-- The first three cycles of a DMC fetch make no access. -/
theorem dmc_waits {s : State} {addr : Word} {pos : Nat} (hd : s.apu.dmcActive = false) (h : s.dma = [.dmc addr pos])
    (hp : pos < 3) : (stallCycle s).dma = [.dmc addr (pos + 1)] ∧ (stallCycle s).openBus = s.openBus := by
  have hcycle : DmaJob.cycle (.dmc addr pos) { s with stall := s.stall - 1 } =
      (.dmc addr (pos + 1), { s with stall := s.stall - 1 }) := if_pos (show pos + 1 < 4 by omega)
  have howed : (DmaJob.dmc addr (pos + 1)).owed ≠ 0 := show 4 - (pos + 1) ≠ 0 by omega
  have hjob := stallCycle_job hd h
  rw [hcycle] at hjob
  obtain ⟨hdma, hbus, -⟩ := hjob
  rw [if_neg howed] at hdma
  exact ⟨hdma, hbus⟩

/-- The fourth reads the sample byte. -/
theorem dmc_reads {s : State} {addr : Word} {b : Byte} (hd : s.apu.dmcActive = false) (h : s.dma = [.dmc addr 3])
    (hb : memByte s addr = some b) :
    (stallCycle s).dma = [] ∧ (stallCycle s).openBus = b ∧ (stallCycle s).apu.dmcBuffer = b := by
  have hread : busRead addr { s with stall := s.stall - 1 } = (b, { s with stall := s.stall - 1, openBus := b }) :=
    busRead_memory hb
  have hcycle : DmaJob.cycle (.dmc addr 3) { s with stall := s.stall - 1 } =
      (.dmc addr 4, { s with stall := s.stall - 1, openBus := b, apu := { s.apu with dmcBuffer := b } }) := by
    simp only [DmaJob.cycle, dmcDmaCycle, hread]
    rfl
  have hjob := stallCycle_job hd h
  rw [hcycle] at hjob
  obtain ⟨hdma, hbus, -, hbuffer⟩ := hjob
  exact ⟨hdma, hbus, hbuffer⟩

/-- Settles O17: three cycles that wait and one that reads. -/
theorem dmcFetchReadsOnce : Obligations.DmcFetchReadsOnce := by
  intro s addr b hr hu hd hdma hs hb
  have h0 := Stalled.refl hd
  have h1 := h0.cycle hr hu (by omega)
  have h2 := h1.cycle hr hu (by omega)
  have h3 := h2.cycle hr hu (by omega)
  have h4 := h3.cycle hr hu (by omega)
  obtain ⟨hdma1, hbus1⟩ := dmc_waits hd hdma (by omega)
  obtain ⟨hdma2, hbus2⟩ := dmc_waits h1.dmcIdle hdma1 (by omega)
  obtain ⟨hdma3, hbus3⟩ := dmc_waits h2.dmcIdle hdma2 (by omega)
  obtain ⟨hdma4, hbus4, hbuffer⟩ := dmc_reads h3.dmcIdle hdma3 ((h3.memByte addr).trans hb)
  have hstall := h4.stall
  exact ⟨⟨_, h3.run, hbus3.trans (hbus2.trans hbus1)⟩, _, h4.run, by omega, hdma4, h4.cycles, core_regs h4.core, hbus4,
    hbuffer⟩

/-! ### An OAM DMA (rule R362) -/

/-- The alignment cycles make no access. -/
theorem oamDma_aligns {s : State} {page : Byte} {align pos : Nat} {latch : Byte} (hd : s.apu.dmcActive = false)
    (h : s.dma = [.oam page align pos latch]) (hp : pos < align) :
    (stallCycle s).dma = [.oam page align (pos + 1) latch] := by
  have hcycle : DmaJob.cycle (.oam page align pos latch) { s with stall := s.stall - 1 } =
      (.oam page align (pos + 1) latch, { s with stall := s.stall - 1 }) := if_pos hp
  have howed : (DmaJob.oam page align (pos + 1) latch).owed ≠ 0 := by
    simp only [DmaJob.owed, DmaJob.length, DmaJob.pos]
    omega
  have hjob := stallCycle_job hd h
  rw [hcycle] at hjob
  obtain ⟨hdma, -⟩ := hjob
  rwa [if_neg howed] at hdma

/-- The read cycle of byte `m`. -/
theorem oamDma_reads {s : State} {page : Byte} {align m : Nat} {latch b : Byte} (hd : s.apu.dmcActive = false)
    (h : s.dma = [.oam page align (align + 2 * m) latch]) (hm : m < 256)
    (hb : memByte s (mkWord page (BitVec.ofNat 8 m)) = some b) :
    (stallCycle s).dma = [.oam page align (align + 2 * m + 1) b] ∧ (stallCycle s).openBus = b ∧
      (stallCycle s).ppu.oam = s.ppu.oam := by
  have hread : busRead (mkWord page (BitVec.ofNat 8 m)) { s with stall := s.stall - 1 } =
      (b, { s with stall := s.stall - 1, openBus := b }) := busRead_memory hb
  have hcycle : DmaJob.cycle (.oam page align (align + 2 * m) latch) { s with stall := s.stall - 1 } =
      (.oam page align (align + 2 * m + 1) b, { s with stall := s.stall - 1, openBus := b }) := by
    rw [DmaJob.cycle, oamDmaCycle, if_neg (by omega), if_pos (by omega), Nat.add_sub_cancel_left,
      Nat.mul_div_cancel_left m (by omega), hread]
  have howed : (DmaJob.oam page align (align + 2 * m + 1) b).owed ≠ 0 := by
    simp only [DmaJob.owed, DmaJob.length, DmaJob.pos]
    omega
  have hjob := stallCycle_job hd h
  rw [hcycle] at hjob
  obtain ⟨hdma, hbus, hoam, -⟩ := hjob
  rw [if_neg howed] at hdma
  exact ⟨hdma, hbus, hoam⟩

/-- The write cycle of byte `m`, after which the transfer goes on to the next byte or ends. -/
theorem oamDma_writes {s : State} {page : Byte} {align m : Nat} {b : Byte} (hd : s.apu.dmcActive = false)
    (h : s.dma = [.oam page align (align + 2 * m + 1) b]) (hm : m < 256) :
    (stallCycle s).dma = (if m = 255 then [] else [.oam page align (align + 2 * (m + 1)) b]) ∧
      (stallCycle s).openBus = s.openBus ∧
      (stallCycle s).ppu.oam = s.ppu.oam.write ((s.ppu.oamAddr.toNat + m) % 256) b := by
  have hcycle : DmaJob.cycle (.oam page align (align + 2 * m + 1) b) { s with stall := s.stall - 1 } =
      (.oam page align (align + 2 * (m + 1)) b, { s with stall := s.stall - 1, ppu := s.ppu.oamPut m b }) := by
    rw [DmaJob.cycle, oamDmaCycle, if_neg (by omega), if_neg (by omega),
      show (align + 2 * m + 1 - align) / 2 = m by omega]
    rfl
  have howed : (DmaJob.oam page align (align + 2 * (m + 1)) b).owed = 0 ↔ m = 255 := by
    simp only [DmaJob.owed, DmaJob.length, DmaJob.pos]
    omega
  have hjob := stallCycle_job hd h
  rw [hcycle] at hjob
  obtain ⟨hdma, hbus, hoam, -⟩ := hjob
  simp only [howed] at hdma
  exact ⟨hdma, hbus, hoam⟩

/-- After the alignment and the copies of the first `m` bytes of the page. -/
structure Copied (page : Byte) (align : Nat) (bytes : Byte → Byte) (m : Nat) (s t : State) : Prop where
  stalled : Stalled (align + 2 * m) s t
  queue : m < 256 → ∃ latch, t.dma = [.oam page align (align + 2 * m) latch]
  ended : m = 256 → t.dma = []
  bus : 0 < m → t.openBus = bytes (BitVec.ofNat 8 (m - 1))
  oam : ∀ i : Byte, i.toNat < m → t.ppu.oam.read (s.ppu.oamAddr + i).toNat = bytes i

section
variable {s : State} {page : Byte} {align : Nat} {bytes : Byte → Byte} (hw : s.wf = true) (hr : s.resetReq = false)
  (hu : s.stuck = none) (hs : s.stall = align + 512) (hb : ∀ i, memByte s (mkWord page i) = some (bytes i))
include hw hr hu hs hb

/-- Two cycles copy the next byte. -/
theorem Copied.next {m : Nat} {t : State} (h : Copied page align bytes m s t) (hm : m < 256) :
    Copied page align bytes (m + 1) s (stallCycle (stallCycle t)) := by
  obtain ⟨latch, hq⟩ := h.queue hm
  have h1 := h.stalled.cycle hr hu (by omega)
  have h2 := h1.cycle hr hu (by omega)
  obtain ⟨hdma1, hbus1, hoam1⟩ := oamDma_reads h.stalled.dmcIdle hq hm ((h.stalled.memByte _).trans (hb _))
  obtain ⟨hdma2, hbus2, hoam2⟩ := oamDma_writes h1.dmcIdle hdma1 hm
  rw [hoam1, h1.oamAddr] at hoam2
  obtain ⟨-, hppu, -⟩ := (State.wf_iff t).1 (h.stalled.wf hw)
  obtain ⟨-, -, hoamWf, -⟩ := (Ppu.wf_iff _).1 hppu
  refine ⟨h2, fun hlt => ⟨_, hdma2.trans (if_neg (by omega))⟩, fun he => hdma2.trans (if_pos (by omega)),
    fun _ => hbus2.trans hbus1, fun i hi => ?_⟩
  have hadd : (s.ppu.oamAddr + i).toNat = (s.ppu.oamAddr.toNat + i.toNat) % 256 := BitVec.toNat_add ..
  rw [hoam2]
  by_cases hlast : i.toNat = m
  · rw [hadd, hlast, Memory.read_write_same hoamWf, ← hlast, BitVec.ofNat_toNat, BitVec.setWidth_eq]
  · have := s.ppu.oamAddr.isLt
    rw [Memory.read_write_other (by omega), h.oam i (by omega)]

/-- All the copies, from the end of the alignment. -/
theorem Copied.all {t : State} (h : Copied page align bytes 0 s t) {m : Nat} (hm : m ≤ 256) :
    ∃ u, Copied page align bytes m s u := by
  induction m with
  | zero => exact ⟨t, h⟩
  | succ m ih =>
    obtain ⟨u, hu'⟩ := ih (by omega)
    exact ⟨_, hu'.next hw hr hu hs hb (by omega)⟩

omit hw hb in
/-- The alignment: one or two cycles. -/
theorem aligned {latch : Byte} (hd : s.apu.dmcActive = false) (hdma : s.dma = [.oam page align 0 latch]) {pos : Nat}
    (hp : pos ≤ align) : ∃ t, Stalled pos s t ∧ t.dma = [.oam page align pos latch] := by
  induction pos with
  | zero => exact ⟨s, .refl hd, hdma⟩
  | succ pos ih =>
    obtain ⟨t, ht, hq⟩ := ih (by omega)
    exact ⟨_, ht.cycle hr hu (by omega), oamDma_aligns ht.dmcIdle hq (by omega)⟩

end

/-- Settles O16: the alignment, then 256 copies of two cycles each. -/
theorem oamDmaCopiesPage : Obligations.OamDmaCopiesPage := by
  intro s page align latch bytes hw hr hu hd _ _ hdma hs hb
  obtain ⟨t, ht, hq⟩ := aligned hr hu hs hd hdma (le_refl align)
  have h0 : Copied page align bytes 0 s t :=
    { stalled := ht
      queue := fun _ => ⟨latch, hq⟩
      ended := fun h => absurd h (by omega)
      bus := fun h => absurd h (by omega)
      oam := fun _ h => absurd h (by omega) }
  obtain ⟨u, h⟩ := h0.all hw hr hu hs hb (le_refl 256)
  have hst := h.stalled
  have hstall := hst.stall
  exact ⟨u, hst.run, by omega, h.ended rfl, hst.cycles, core_regs hst.core, hst.memByte, h.bus (by omega),
    fun i => h.oam i i.isLt⟩

/-! ## The PPU's registers on the bus (rules R350, R351) -/

theorem busRead_ppu {a : Word} (s : State) (h : 0x2000 ≤ a.toNat) (h2 : a.toNat < 0x4000) :
    busRead a s = ((s.ppu.regRead s.cart s.openBus (a.toNat % 8)).1,
      { s with
        ppu := (s.ppu.regRead s.cart s.openBus (a.toNat % 8)).2
        openBus := (s.ppu.regRead s.cart s.openBus (a.toNat % 8)).1 }) := by
  rw [busRead_eq, deviceRead_ppu s h h2]

theorem busWrite_ppu {a : Word} (d : Byte) (s : State) (h : 0x2000 ≤ a.toNat) (h2 : a.toNat < 0x4000) :
    busWrite a d s = { s with
      ppu := s.ppu.regWrite s.cart (a.toNat % 8) d
      cart := s.ppu.regWriteCart s.cart (a.toNat % 8) d
      openBus := d } := by
  rw [busWrite_eq, deviceWrite_ppu d s h h2]

/-- Only a write of PPUDATA reaches the cartridge. -/
theorem Ppu.regWriteCart_other (p : Ppu) (c : Cart) {r : Nat} (d : Byte) (h : r ≠ 7) : p.regWriteCart c r d = c := by
  simp [Ppu.regWriteCart, h]

/-! ### PPUSTATUS -/

/-- Three flags over five bits, bit by bit, over all values of them. -/
theorem flagsOver_bits (f g h : Bool) (x : BitVec 5) :
    let v : Byte := BitVec.ofBool f ++ BitVec.ofBool g ++ BitVec.ofBool h ++ x
    v.getLsbD 7 = f ∧ v.getLsbD 6 = g ∧ v.getLsbD 5 = h ∧ ∀ k < 5, v.getLsbD k = x.getLsbD k := by
  revert f g h x
  decide +kernel

/-- The status byte: the flags in bits 7 to 5, the latch below (rule R350). -/
theorem Ppu.statusRead_bits (p : Ppu) (ob : Byte) :
    (p.statusRead ob).1.getLsbD 7 = (p.vblank && !p.vblankSetThisCycle) ∧
      (p.statusRead ob).1.getLsbD 6 = p.spriteZero ∧ (p.statusRead ob).1.getLsbD 5 = p.overflow ∧
      ∀ k < 5, (p.statusRead ob).1.getLsbD k = ob.getLsbD k := by
  obtain ⟨h7, h6, h5, hlow⟩ :=
    flagsOver_bits (p.vblank && !p.vblankSetThisCycle) p.spriteZero p.overflow (ob.extractLsb' 0 5)
  exact ⟨h7, h6, h5, fun k hk => (hlow k hk).trans (by simp [hk])⟩

/-- Settles O19: the register's read and write, at every mirror. -/
theorem ppuStatusReadClearsVblankAndW : Obligations.PpuStatusReadClearsVblankAndW := by
  intro s a d h h2 hreg r
  have hr : r = ((s.ppu.statusRead s.openBus).1,
      { s with ppu := (s.ppu.statusRead s.openBus).2, openBus := (s.ppu.statusRead s.openBus).1 }) := by
    have hb := busRead_ppu s h h2
    rwa [hreg] at hb
  refine ⟨?first, ?ppu, ?second, ?write⟩
  case first =>
    rw [hr]
    exact s.ppu.statusRead_bits s.openBus
  case ppu =>
    rw [hr]
    rfl
  case second =>
    rw [busRead_ppu r.2 h h2, hreg, hr]
    exact (Ppu.statusRead_bits _ _).1
  case write =>
    rw [busWrite_ppu d s h h2, hreg, Ppu.regWriteCart_other _ _ _ (by decide)]
    rfl

/-! ### The bits of a register write (rule R355) -/

section
variable (p : Ppu) (d : Byte) (k : Nat) (hk : k < 15)
include hk

theorem Ppu.ctrlWrite_t :
    (p.ctrlWrite d).t.getLsbD k = if 10 ≤ k ∧ k ≤ 11 then d.getLsbD (k - 10) else p.t.getLsbD k := by
  interval_cases k <;> simp [Ppu.ctrlWrite]

theorem Ppu.scrollWrite_first_t (hw : p.w = false) :
    (p.scrollWrite d).t.getLsbD k = if k ≤ 4 then d.getLsbD (k + 3) else p.t.getLsbD k := by
  interval_cases k <;> simp [Ppu.scrollWrite, hw]

theorem Ppu.scrollWrite_second_t (hw : p.w = true) :
    (p.scrollWrite d).t.getLsbD k =
      if 12 ≤ k then d.getLsbD (k - 12) else if 5 ≤ k ∧ k ≤ 9 then d.getLsbD (k - 2) else p.t.getLsbD k := by
  interval_cases k <;> simp [Ppu.scrollWrite, hw]

theorem Ppu.addrWrite_first_t (hw : p.w = false) :
    (p.addrWrite d).t.getLsbD k =
      if k = 14 then false else if 8 ≤ k then d.getLsbD (k - 8) else p.t.getLsbD k := by
  interval_cases k <;> simp [Ppu.addrWrite, hw]

theorem Ppu.addrWrite_second_t (hw : p.w = true) :
    (p.addrWrite d).t.getLsbD k = if k ≤ 7 then d.getLsbD k else p.t.getLsbD k := by
  interval_cases k <;> simp [Ppu.addrWrite, hw]

end

/-- Settles O20: each register's write by its definition, the bits of `t` by the lemmas above. -/
theorem ppuRegisterWritesSetTheirFields : Obligations.PpuRegisterWritesSetTheirFields := by
  intro s a d h h2 p q
  have hbus := busWrite_ppu d s h h2
  have hq : q = p.regWrite s.cart (a.toNat % 8) d := congrArg State.ppu hbus
  refine ⟨fun hr => ?other, fun hr => ?mask, fun hr => ?oamAddr, fun hr => ?oamData, fun hr => ?ctrl,
    fun hr hw => ?scroll1, fun hr hw => ?scroll2, fun hr hw => ?addr1, fun hr hw => ?addr2⟩
  case other =>
    rw [hq, hbus, Ppu.regWriteCart_other _ _ _ hr]
  case mask =>
    rw [hq, hr]
    rfl
  case oamAddr =>
    rw [hq, hr]
    rfl
  case oamData =>
    rw [hr] at hq
    refine ⟨by rw [hq]; rfl, fun hwf i => ?_, ?_⟩
    · obtain ⟨-, hppu, -⟩ := (State.wf_iff s).1 hwf
      obtain ⟨-, -, hoam, -⟩ := (Ppu.wf_iff _).1 hppu
      have haddr : (p.oamAddr.toNat + 0) % 256 = p.oamAddr.toNat := Nat.mod_eq_of_lt p.oamAddr.isLt
      have hput : q.oam = p.oam.write p.oamAddr.toNat d := by
        rw [hq, ← haddr]
        rfl
      rw [hput]
      split
      · next he => rw [he, Memory.read_write_same hoam]
      · next hne => exact Memory.read_write_other fun e => hne (BitVec.eq_of_toNat_eq e)
    · rw [busRead_ppu s h h2, hr]
      rfl
  case ctrl =>
    rw [hq, hr]
    exact ⟨rfl, fun k hk => p.ctrlWrite_t d k hk⟩
  case scroll1 =>
    rw [hr] at hq
    refine ⟨?_, fun k hk => ?_, fun k hk => ?_⟩
    · simp [hq, Ppu.regWrite, Ppu.scrollWrite, hw]
    · simp [hq, Ppu.regWrite, Ppu.scrollWrite, hw, hk]
    · rw [hq]
      exact p.scrollWrite_first_t d k hk hw
  case scroll2 =>
    rw [hr] at hq
    refine ⟨by simp [hq, Ppu.regWrite, Ppu.scrollWrite, hw], fun k hk => ?_⟩
    rw [hq]
    exact p.scrollWrite_second_t d k hk hw
  case addr1 =>
    rw [hr] at hq
    refine ⟨by simp [hq, Ppu.regWrite, Ppu.addrWrite, hw], fun k hk => ?_⟩
    rw [hq]
    exact p.addrWrite_first_t d k hk hw
  case addr2 =>
    rw [hr] at hq
    refine ⟨by simp [hq, Ppu.regWrite, Ppu.addrWrite, hw], fun k hk => ?_⟩
    rw [hq]
    exact p.addrWrite_second_t d k hk hw

/-! ### PPUDATA (rules R352, R356) -/

/-- Where `v` points, as the three ranges of the PPU bus see it. -/
theorem Ppu.dataRead_pattern (p : Ppu) (c : Cart) (h : p.busAddr < 0x2000) :
    p.dataRead c = (p.buffer, { p with buffer := c.ppuRead p.busAddr }.advanceV) := by
  simp only [Ppu.dataRead, Ppu.busRead, if_pos h, if_pos (show p.busAddr < 0x3F00 by omega)]

theorem Ppu.dataRead_nametable (p : Ppu) (c : Cart) (h : 0x2000 ≤ p.busAddr) (h2 : p.busAddr < 0x3F00) :
    p.dataRead c = (p.buffer, { p with buffer := p.vramRead c p.busAddr }.advanceV) := by
  simp only [Ppu.dataRead, Ppu.busRead, if_neg (show ¬ p.busAddr < 0x2000 by omega), if_pos h2]

theorem Ppu.dataRead_palette (p : Ppu) (c : Cart) (h : 0x3F00 ≤ p.busAddr) :
    p.dataRead c =
      (p.paletteRead p.busAddr, { p with buffer := p.vramRead c (p.busAddr - 0x1000) }.advanceV) := by
  simp only [Ppu.dataRead, if_neg (show ¬ p.busAddr < 0x3F00 by omega)]

theorem Ppu.dataWrite_pattern (p : Ppu) (c : Cart) (d : Byte) (h : p.busAddr < 0x2000) :
    p.dataWrite c d = p.advanceV := by
  simp only [Ppu.dataWrite, if_pos h]

theorem Ppu.dataWrite_nametable (p : Ppu) (c : Cart) (d : Byte) (h : 0x2000 ≤ p.busAddr) (h2 : p.busAddr < 0x3F00) :
    p.dataWrite c d = { p with vram := p.vram.write (vramOffset c.mirror p.busAddr) d }.advanceV := by
  simp only [Ppu.dataWrite, if_neg (show ¬ p.busAddr < 0x2000 by omega), if_pos h2]

theorem Ppu.dataWrite_palette (p : Ppu) (c : Cart) (d : Byte) (h : 0x3F00 ≤ p.busAddr) :
    p.dataWrite c d = { p with palette := p.palette.write (paletteIndex p.busAddr) d }.advanceV := by
  simp only [Ppu.dataWrite, if_neg (show ¬ p.busAddr < 0x2000 by omega), if_neg (show ¬ p.busAddr < 0x3F00 by omega)]

theorem Ppu.regWriteCart_pattern (p : Ppu) (c : Cart) (d : Byte) (h : p.busAddr < 0x2000) :
    p.regWriteCart c 7 d = c.ppuWrite p.busAddr d := by
  simp [Ppu.regWriteCart, h]

theorem Ppu.regWriteCart_above (p : Ppu) (c : Cart) (d : Byte) (h : 0x2000 ≤ p.busAddr) : p.regWriteCart c 7 d = c := by
  simp [Ppu.regWriteCart, h]

/-- `ppu_write` leaves the pattern bytes of CHR-ROM alone (rule R371). -/
theorem Cart.ppuWrite_chr (c : Cart) (a : Nat) (d : Byte) :
    (c.ppuWrite a d).chr = if c.chrBanks = 0 then c.chr.write (c.chrOffset a) d else c.chr := by
  unfold Cart.ppuWrite
  split <;> rfl

/-- Settles O21: a read and a write of PPUDATA by the range `v` points into. -/
theorem ppuDataIsBufferedAndAdvancesV : Obligations.PpuDataIsBufferedAndAdvancesV := by
  intro s a d h h2 hr p v next
  have hread : busRead a s = ((p.dataRead s.cart).1,
      { s with ppu := (p.dataRead s.cart).2, openBus := (p.dataRead s.cart).1 }) := by
    have hb := busRead_ppu s h h2
    rwa [hr] at hb
  have hwrite : busWrite a d s =
      { s with ppu := p.dataWrite s.cart d, cart := p.regWriteCart s.cart 7 d, openBus := d } := by
    have hb := busWrite_ppu d s h h2
    rwa [hr] at hb
  rw [hread, hwrite]
  refine ⟨fun hv => ?_, fun hv hv2 => ?_, fun hv => ?_, fun hv => ⟨?_, ?_⟩, fun hv => ?_, fun hv hv2 => ?_,
    fun hv => ?_⟩
  · rw [p.dataRead_pattern s.cart hv]
    exact ⟨rfl, rfl⟩
  · rw [p.dataRead_nametable s.cart hv hv2]
    exact ⟨rfl, rfl⟩
  · rw [p.dataRead_palette s.cart hv]
    exact ⟨rfl, rfl⟩
  · exact p.dataWrite_pattern s.cart d hv
  · exact (congrArg Cart.chr (p.regWriteCart_pattern s.cart d hv)).trans (s.cart.ppuWrite_chr _ d)
  · exact p.regWriteCart_above s.cart d hv
  · exact p.dataWrite_nametable s.cart d hv hv2
  · exact p.dataWrite_palette s.cart d hv

/-! ### The palette's mirrors (rule R352) -/

/-- A read of PPUDATA with `v` in the palette. -/
theorem busRead_palette {s : State} (h : 0x3F00 ≤ s.ppu.busAddr) :
    (busRead 0x2007#16 s).1 = s.ppu.palette.read (paletteIndex s.ppu.busAddr) := by
  rw [busRead_ppu s (by decide) (by decide)]
  exact congrArg Prod.fst (s.ppu.dataRead_palette s.cart h)

/-- A write of PPUDATA with `v` in the palette. -/
theorem busWrite_palette (d : Byte) {s : State} (h : 0x3F00 ≤ s.ppu.busAddr) :
    (busWrite 0x2007#16 d s).ppu.palette = s.ppu.palette.write (paletteIndex s.ppu.busAddr) d := by
  rw [busWrite_ppu d s (by decide) (by decide)]
  exact congrArg Ppu.palette (s.ppu.dataWrite_palette s.cart d h)

/-- The fold of the 32 palette bytes, from the 15 bits of `v`. -/
theorem paletteIndex_fold (v : BitVec 15) :
    paletteIndex (v.toNat % 0x4000) = if v.toNat % 4 = 0 then v.toNat % 0x10 else v.toNat % 0x20 := by
  unfold paletteIndex
  dsimp only
  split_ifs <;> omega

/-- Settles O22: a palette access is one to the folded index, and the palette is one memory. -/
theorem paletteMirrorsReadBack : Obligations.PaletteMirrorsReadBack := by
  intro s d x y hw hx hy fold at' t
  have hpalette : s.ppu.palette.wf 0x20 = true := by
    obtain ⟨-, hppu, -⟩ := (State.wf_iff s).1 hw
    obtain ⟨-, -, -, hp, -⟩ := (Ppu.wf_iff _).1 hppu
    exact hp
  have ht : t.ppu.palette = s.ppu.palette.write (fold x) d :=
    (busWrite_palette d (s := at' x s) hx).trans (congrArg (s.ppu.palette.write · d) (paletteIndex_fold x))
  have hread (u : State) : (busRead 0x2007#16 (at' y u)).1 = u.ppu.palette.read (fold y) :=
    (busRead_palette (s := at' y u) hy).trans (congrArg u.ppu.palette.read (paletteIndex_fold y))
  rw [hread, hread, ht]
  split
  · next he => rw [he, Memory.read_write_same hpalette]
  · next hne => exact Memory.read_write_other (Ne.symm hne)

/-! ## The PPU dot by dot (rules R353, R354) -/

/-- One dot more, at the end. -/
theorem Ppu.ticks_succ (p : Ppu) (n k : Nat) : p.ticks n (k + 1) = (p.ticks n k).tick (n + k) := by
  induction k generalizing p n with
  | zero => rfl
  | succ k ih =>
    have h := ih (p.tick n) (n + 1)
    rw [Nat.add_assoc, Nat.add_comm 1 k] at h
    exact h

/-- A dot changes neither PPUMASK nor, but at the wrap, the parity of the frame. -/
theorem Ppu.tick_frame (p : Ppu) (n : Nat) :
    (p.tick n).mask = p.mask ∧ (p.tick n).oddFrame = p.nextPos.oddFrame := by
  unfold Ppu.tick Ppu.nextPos
  dsimp only
  split_ifs <;> exact ⟨rfl, rfl⟩

/-- The dots of a frame that began in scanline 0: after `k` of them, `k` dots on. -/
theorem Ppu.ticks_pos {p : Ppu} (n : Nat) {k : Nat} (hl : p.scanline = 0) (hd : p.dot < 341)
    (hk : k < 262 * 341 - p.dot) :
    (p.ticks n k).scanline = (p.dot + k) / 341 ∧ (p.ticks n k).dot = (p.dot + k) % 341 ∧
      (p.ticks n k).oddFrame = p.oddFrame ∧ (p.ticks n k).mask = p.mask := by
  induction k with
  | zero => exact ⟨by rw [Ppu.ticks]; omega, by rw [Ppu.ticks]; omega, rfl, rfl⟩
  | succ k ih =>
    obtain ⟨hline, hdot, hodd, hmask⟩ := ih (by omega)
    obtain ⟨tline, tdot⟩ := (p.ticks n k).tick_pos (n + k)
    obtain ⟨tmask, todd⟩ := (p.ticks n k).tick_frame (n + k)
    rw [Ppu.ticks_succ, tline, tdot, todd, tmask]
    obtain h1 | ⟨h1, h2⟩ : (p.ticks n k).dot < 340 ∨ (¬ (p.ticks n k).dot < 340 ∧ (p.ticks n k).scanline < 261) := by
      omega
    · rw [Ppu.nextPos, if_pos h1]
      exact ⟨by dsimp only; omega, by dsimp only; omega, hodd, hmask⟩
    · rw [Ppu.nextPos, if_neg h1, if_pos h2]
      exact ⟨by dsimp only; omega, by dsimp only; omega, hodd, hmask⟩

/-- The wrap to the next frame, which skips its first dot if it is odd and rendering is enabled (rule R354). -/
theorem Ppu.tick_wrap {p : Ppu} (n : Nat) (hl : p.scanline = 261) (hd : p.dot = 340) :
    (p.tick n).scanline = 0 ∧ (p.tick n).oddFrame = !p.oddFrame ∧
      (p.tick n).dot = if !p.oddFrame && (p.mask.getLsbD 3 || p.mask.getLsbD 4) then 1 else 0 := by
  obtain ⟨tline, tdot⟩ := p.tick_pos n
  obtain ⟨-, todd⟩ := p.tick_frame n
  rw [tline, tdot, todd]
  simp [Ppu.nextPos, hl, hd, Ppu.rendering]

theorem Ppu.tick_vblank (p : Ppu) (n : Nat) :
    (p.tick n).vblank =
      if p.scanline = 241 ∧ p.dot = 1 then !p.cancelVblank
      else if p.scanline = 261 ∧ p.dot = 1 then false else p.vblank := by
  obtain ⟨hv, -⟩ := p.tick_fields n
  rw [hv]
  simp only [Ppu.dotVblank, Ppu.atVblankSet, Bool.and_eq_true, beq_iff_eq, decide_eq_true_eq]

theorem Ppu.tick_cancelVblank (p : Ppu) (n : Nat) :
    (p.tick n).cancelVblank = if p.scanline = 241 ∧ p.dot = 1 then false else p.cancelVblank := by
  obtain ⟨-, -, hc, -⟩ := p.tick_fields n
  rw [hc]
  simp only [Ppu.atVblankSet, Bool.and_eq_true, beq_iff_eq]

/-- The flag is set, and dot 1 of scanline 261 is at least `3 - j` dots away. -/
def Ppu.VblankHeld (j : Nat) (p : Ppu) : Prop :=
  p.vblank = true ∧ p.cancelVblank = false ∧
    (p.scanline < 260 ∨ (p.scanline = 260 ∧ p.dot < 340 + j) ∨ (p.scanline = 261 ∧ p.dot + 1 < j))

theorem Ppu.VblankHeld.tick {j : Nat} {p : Ppu} (h : p.VblankHeld j) (hj : j ≤ 2) (n : Nat) :
    (p.tick n).VblankHeld (j + 1) := by
  obtain ⟨hv, hc, hpos⟩ := h
  obtain ⟨tline, tdot⟩ := p.tick_pos n
  have hne : ¬ (p.scanline = 261 ∧ p.dot = 1) := by omega
  refine ⟨?_, ?_, ?_⟩
  · rw [p.tick_vblank, if_neg hne, hc, hv]
    exact ite_self true
  · rw [p.tick_cancelVblank, hc]
    exact ite_self false
  · rw [tline, tdot]
    unfold Ppu.nextPos
    split_ifs <;> dsimp only <;> omega

/-- The flag is clear, and a dot that would set it is cancelled, or is past: fewer than `j - 1` dots ago. -/
def Ppu.VblankMissed (j : Nat) (p : Ppu) : Prop :=
  p.vblank = false ∧ (p.cancelVblank = true ∨ (p.scanline = 241 ∧ 2 ≤ p.dot ∧ p.dot < j))

theorem Ppu.VblankMissed.tick {j : Nat} {p : Ppu} (h : p.VblankMissed j) (h2 : 2 ≤ j) (hj : j ≤ 340) (n : Nat) :
    (p.tick n).VblankMissed (j + 1) := by
  obtain ⟨hv, hpos⟩ := h
  obtain ⟨tline, tdot⟩ := p.tick_pos n
  rw [Ppu.VblankMissed, p.tick_vblank, p.tick_cancelVblank, tline, tdot, hv, ite_self false]
  by_cases hset : p.scanline = 241 ∧ p.dot = 1
  · have hc : p.cancelVblank = true := by
      obtain hc | hpast := hpos
      · exact hc
      · omega
    rw [if_pos hset, if_pos hset, hc, Ppu.nextPos, if_pos (by omega)]
    exact ⟨rfl, .inr ⟨hset.1, by dsimp only; omega, by dsimp only; omega⟩⟩
  · rw [if_neg hset, if_neg hset]
    refine ⟨rfl, hpos.imp_right fun hpast => ?_⟩
    rw [Ppu.nextPos, if_pos (by omega)]
    exact ⟨hpast.1, by dsimp only; omega, by dsimp only; omega⟩

/-- A cycle whose dots all keep the flag clear latches no NMI. -/
theorem endCycle_vblankMissed {s : State} (h : s.ppu.VblankMissed 2) :
    (endCycle s).ppu.vblank = false ∧ (endCycle s).nmiPending = s.nmiPending := by
  have hclear : (endCycle s).ppu.vblank = false :=
    (((h.tick (by decide) (by decide) _).tick (by decide) (by decide) _).tick (by decide) (by decide) _).1
  have hline : (endCycle s).nmiPrev = false := by
    show (endCycle s).ppu.nmiLine = false
    rw [Ppu.nmiLine, hclear, Bool.false_and]
  refine ⟨hclear, ?_⟩
  rw [endCycle_nmiPending, hline, Bool.false_and, Bool.or_false]

/-- A cycle whose dots all keep the flag set, with PPUCTRL bit 7 set and the line low before it, latches an NMI. -/
theorem endCycle_vblankHeld {s : State} (h : s.ppu.VblankHeld 0) (hctrl : s.ppu.ctrl.getLsbD 7 = true)
    (hprev : s.nmiPrev = false) : (endCycle s).nmiPending = true := by
  have hset : (endCycle s).ppu.vblank = true :=
    (((h.tick (by decide) _).tick (by decide) _).tick (by decide) _).1
  have hline : (endCycle s).nmiPrev = true := by
    show (endCycle s).ppu.nmiLine = true
    rw [Ppu.nmiLine, hset, show (endCycle s).ppu.ctrl = s.ppu.ctrl from (runDots_fields _ _ _).1, hctrl]
    rfl
  rw [endCycle_nmiPending, hline, hprev]
  exact Bool.or_true _

/-- Settles O18: the position by induction over the dots, the flag dot by dot, and the two races by what three dots keep
of it. -/
theorem dotsDriveVblankAndNmi : Obligations.DotsDriveVblankAndNmi := by
  refine ⟨?frame, Ppu.tick_vblank, fun _ => rfl,
    fun s a d h h2 hr hv hc hprev hd hpos => ?enable, fun s a h h2 hr hrace => ?race⟩
  case frame =>
    intro p n k hl hd whole q next
    obtain ⟨hline, hdot, hodd, hmask⟩ := Ppu.ticks_pos n hl hd (k := whole - 1) (by omega)
    have hnext : next = (p.ticks n (whole - 1)).tick (n + (whole - 1)) := by
      rw [← Ppu.ticks_succ, Nat.sub_add_cancel (by omega)]
    obtain ⟨wline, wodd, wdot⟩ := Ppu.tick_wrap (p := p.ticks n (whole - 1)) (n + (whole - 1)) (by omega) (by omega)
    rw [← hnext] at wline wodd wdot
    rw [← wodd, hmask] at wdot
    rw [hodd] at wodd
    refine ⟨fun hk => ?_, wline, wodd, wdot⟩
    obtain ⟨qline, qdot, qodd, -⟩ := Ppu.ticks_pos n hl hd hk
    exact ⟨qline, qdot, qodd⟩
  case enable =>
    have hheld : (s.ppu.ctrlWrite d).VblankHeld 0 := ⟨hv, hc, by
      show s.ppu.scanline < 260 ∨ s.ppu.scanline = 260 ∧ s.ppu.dot < 340 ∨ s.ppu.scanline = 261 ∧ s.ppu.dot + 1 < 0
      omega⟩
    rw [memWrite, busWrite_ppu d s h h2, hr]
    exact endCycle_vblankHeld hheld hd hprev
  case race =>
    have hread := busRead_ppu s h h2
    rw [hr] at hread
    have hmissed : (s.ppu.statusRead s.openBus).2.VblankMissed 2 := ⟨rfl, .inl (by
      show (s.ppu.cancelVblank || s.ppu.vblankSetThisCycle) = true
      rw [hrace, Bool.or_true])⟩
    obtain ⟨h7, -⟩ := s.ppu.statusRead_bits s.openBus
    rw [hrace, Bool.not_true, Bool.and_false] at h7
    rw [memRead, hread]
    exact ⟨h7, endCycle_vblankMissed hmissed⟩

/-! ## The controllers (rule R363) -/

/-- The two controller ports. -/
inductive PadPort where
  | one
  | two

namespace PadPort

/-- Where the CPU reads a port. -/
def addr : PadPort → Word
  | one => 0x4016#16
  | two => 0x4017#16

/-- The port's shift latch. -/
def latch (k : Pads) : PadPort → Byte
  | one => k.latch1
  | two => k.latch2

/-- The port's read index. -/
def index (k : Pads) : PadPort → Nat
  | one => k.index1
  | two => k.index2

/-- The other port. -/
def other : PadPort → PadPort
  | one => two
  | two => one

/-- The controllers with the port's read index at `i`. -/
def setIndex (k : Pads) (i : Nat) : PadPort → Pads
  | one => { k with index1 := i }
  | two => { k with index2 := i }

variable (q : PadPort) (k : Pads) (i : Nat)

@[simp] theorem setIndex_strobe : (q.setIndex k i).strobe = k.strobe := by cases q <;> rfl
@[simp] theorem setIndex_latch : q.latch (q.setIndex k i) = q.latch k := by cases q <;> rfl
@[simp] theorem setIndex_index : q.index (q.setIndex k i) = i := by cases q <;> rfl
@[simp] theorem setIndex_other : q.other.index (q.setIndex k i) = q.other.index k := by cases q <;> rfl

end PadPort

/-- A read of a port. -/
theorem busRead_pad (q : PadPort) (s : State) :
    let b := padByte s.openBus (padBit s.pads.strobe (q.latch s.pads) (q.index s.pads))
    busRead q.addr s =
      (b, { s with pads := q.setIndex s.pads (padIndex s.pads.strobe (q.index s.pads)), openBus := b }) := by
  cases q <;> rfl

/-- The open-bus bits of a controller read survive it, so a sequence of reads shows those before the first. -/
theorem padByte_padByte (ob : Byte) (b c : Bool) : padByte (padByte ob b) c = padByte ob c := by
  revert ob b c
  decide +kernel

/-- Advancing the index and reading `k` bits on is reading `k + 1` bits on, past the last bit too. -/
theorem padBit_padIndex (latch : Byte) (i k : Nat) :
    padBit false latch (padIndex false i + k) = padBit false latch (i + (k + 1)) := by
  by_cases h : i < 8
  · simp only [padIndex, h, if_true, Bool.false_eq_true, if_false, Nat.add_assoc, Nat.add_comm 1 k]
  · have h1 : ¬ i + k < 8 := by omega
    have h2 : ¬ i + (k + 1) < 8 := by omega
    simp only [padBit, padIndex, h, h1, h2, Bool.false_eq_true, if_false]

/-- With the strobe low, reads give the latch bit by bit from the index on, and ones past bit 7. -/
theorem readMany_released (q : PadPort) (n : Nat) {s : State} (h : s.pads.strobe = false) :
    (readMany q.addr n s).1 =
      (List.range n).map fun k => padByte s.openBus (padBit false (q.latch s.pads) (q.index s.pads + k)) := by
  induction n generalizing s with
  | zero => rfl
  | succ n ih =>
    rw [readMany, busRead_pad, List.range_succ_eq_map, List.map_cons, List.map_map, h]
    dsimp only
    rw [ih (by rw [PadPort.setIndex_strobe, h])]
    simp only [PadPort.setIndex_latch, PadPort.setIndex_index, padByte_padByte, padBit_padIndex, Nat.add_zero]
    rfl

/-- With the strobe held, every read gives bit 0 of the latch. -/
theorem readMany_held (q : PadPort) (n : Nat) {s : State} (h : s.pads.strobe = true) :
    (readMany q.addr n s).1 = List.replicate n (padByte s.openBus ((q.latch s.pads).getLsbD 0)) := by
  induction n generalizing s with
  | zero => rfl
  | succ n ih =>
    rw [readMany, busRead_pad, List.replicate_succ, h]
    dsimp only
    rw [ih (by rw [PadPort.setIndex_strobe, h])]
    simp only [PadPort.setIndex_latch, padByte_padByte]
    rfl

/-- Reads of one port leave the other's index. -/
theorem readMany_other (q : PadPort) (n : Nat) (s : State) :
    q.other.index (readMany q.addr n s).2.pads = q.other.index s.pads := by
  induction n generalizing s with
  | zero => rfl
  | succ n ih =>
    rw [readMany, busRead_pad]
    exact (ih _).trans (q.setIndex_other _ _)

theorem Pads.strobeWrite_set (k : Pads) {d : Byte} (h : d.getLsbD 0 = true) :
    k.strobeWrite d = { k with strobe := true, latch1 := k.input1, latch2 := k.input2, index1 := 0, index2 := 0 } :=
  if_pos h

theorem Pads.strobeWrite_clear (k : Pads) {d : Byte} (h : d.getLsbD 0 = false) :
    k.strobeWrite d = { k with strobe := false } :=
  if_neg (by rw [h]; exact Bool.false_ne_true)

theorem padByte_eq (ob : Byte) (b : Bool) : padByte ob b = (ob &&& 0xE0#8) ||| BitVec.ofNat 8 b.toNat := by
  cases b <;> rfl

/-- Settles O23: the strobe fills the latches, and the reads of each port walk its own. -/
theorem controllersShiftOutEightButtons : Obligations.ControllersShiftOutEightButtons := by
  intro s d1 d0 n h1 h0 value shifted t held
  have hheld : held = { s with
      pads :=
        { s.pads with strobe := true, latch1 := s.pads.input1, latch2 := s.pads.input2, index1 := 0, index2 := 0 }
      openBus := d1 } := by
    rw [← s.pads.strobeWrite_set h1]
    rfl
  have ht : t = { s with
      pads :=
        { s.pads with strobe := false, latch1 := s.pads.input1, latch2 := s.pads.input2, index1 := 0, index2 := 0 }
      openBus := d0 } := by
    have hw : t = { held with pads := held.pads.strobeWrite d0, openBus := d0 } := rfl
    rw [hw, Pads.strobeWrite_clear _ h0, hheld]
  have hshift (v : Byte) : shifted v = (List.range n).map fun k => padByte d0 (padBit false v (0 + k)) := by
    refine List.map_congr_left fun k _ => ?_
    rw [padByte_eq, Nat.zero_add]
    rfl
  simp only [value]
  rw [ht, hheld, hshift, hshift, ← padByte_eq, ← padByte_eq]
  exact ⟨readMany_released .one n rfl, readMany_released .two n rfl, readMany_other .one n _, readMany_other .two n _,
    readMany_held .one n rfl, readMany_held .two n rfl⟩

/-! ## The APU's registers (rule R358) -/

/-- Eight flags, bit by bit, over all values of them. -/
theorem flagByte_bits (b7 b6 b5 b4 b3 b2 b1 b0 : Bool) :
    let v : Byte := BitVec.ofBool b7 ++ BitVec.ofBool b6 ++ BitVec.ofBool b5 ++ BitVec.ofBool b4 ++ BitVec.ofBool b3 ++
      BitVec.ofBool b2 ++ BitVec.ofBool b1 ++ BitVec.ofBool b0
    v.getLsbD 0 = b0 ∧ v.getLsbD 1 = b1 ∧ v.getLsbD 2 = b2 ∧ v.getLsbD 3 = b3 ∧ v.getLsbD 4 = b4 ∧
      v.getLsbD 5 = b5 ∧ v.getLsbD 6 = b6 ∧ v.getLsbD 7 = b7 := by
  revert b7 b6 b5 b4 b3 b2 b1 b0
  decide +kernel

/-- The status byte (rule R358). -/
theorem Apu.statusRead_bits (u : Apu) (ob : Byte) :
    let v := (u.statusRead ob).1
    v.getLsbD 0 = (u.lenPulse1 != 0#8) ∧ v.getLsbD 1 = (u.lenPulse2 != 0#8) ∧
      v.getLsbD 2 = (u.lenTriangle != 0#8) ∧ v.getLsbD 3 = (u.lenNoise != 0#8) ∧ v.getLsbD 4 = u.dmcActive ∧
      v.getLsbD 5 = ob.getLsbD 5 ∧ v.getLsbD 6 = u.frameIrq ∧ v.getLsbD 7 = u.dmcIrq :=
  flagByte_bits ..

theorem busWrite_channel {a : Word} (d : Byte) (s : State) (h : 0x4000 ≤ a.toNat) (h2 : a.toNat ≤ 0x4013) :
    busWrite a d s = { s with apu := s.apu.channelWrite a.toNat d, openBus := d } := by
  rw [busWrite_eq, deviceWrite, if_neg (by omega), if_neg (by omega), if_pos (by omega)]

theorem busWrite_apuEnable (d : Byte) (s : State) :
    busWrite 0x4015#16 d s = { s with apu := s.apu.enableWrite d, openBus := d } := rfl

theorem busWrite_apuFrame (d : Byte) (s : State) :
    busWrite 0x4017#16 d s = { s with apu := s.apu.frameWrite d, openBus := d } := rfl

/-- The load of a length counter by the write of its channel's fourth register, in one condition. -/
theorem loadLength_if (c : Prop) [Decidable c] (enabled : Bool) (d k : Byte) :
    (if c then loadLength enabled d k else k) =
      if c ∧ enabled = true then Config.lengthTable (d.extractLsb' 3 5) else k := by
  unfold loadLength
  cases enabled <;> simp

/-- The one channel write that acknowledges the DMC IRQ. -/
theorem Apu.channelWrite_dmcIrq (u : Apu) (a : Word) (d : Byte) :
    (u.channelWrite a.toNat d).dmcIrq = (u.dmcIrq && !(a == 0x4010#16 && !d.getLsbD 7)) := by
  have ha : decide (a.toNat = 0x4010) = (a == 0x4010#16) := by
    rw [Bool.eq_iff_iff, decide_eq_true_eq, beq_iff_eq, BitVec.toNat_eq]
    rfl
  simp only [Apu.channelWrite, ha]
  cases (a == 0x4010#16 && !d.getLsbD 7)
  · exact (Bool.and_true _).symm
  · exact (Bool.and_false _).symm

theorem kept_ne_zero (b : Bool) (k : Byte) : ((if b then k else 0#8) != 0#8) = (b && k != 0#8) := by
  cases b <;> rfl

/-- A read of 0x4015 after a write of it. -/
theorem busRead_apuStatus_enabled (d : Byte) (s : State) :
    let r := (busRead 0x4015#16 s).1
    let q := (busRead 0x4015#16 (busWrite 0x4015#16 d s)).1
    (∀ k < 4, q.getLsbD k = (d.getLsbD k && r.getLsbD k)) ∧ q.getLsbD 4 = d.getLsbD 4 ∧
      q.getLsbD 6 = r.getLsbD 6 ∧ q.getLsbD 7 = false := by
  obtain ⟨r0, r1, r2, r3, -, -, r6, -⟩ := s.apu.statusRead_bits s.openBus
  obtain ⟨q0, q1, q2, q3, q4, -, q6, q7⟩ := (s.apu.enableWrite d).statusRead_bits d
  intro r q
  refine ⟨fun k hk => ?_, q4, q6.trans r6.symm, q7⟩
  match k with
  | 0 => exact q0.trans ((kept_ne_zero _ _).trans (congrArg (d.getLsbD 0 && ·) r0.symm))
  | 1 => exact q1.trans ((kept_ne_zero _ _).trans (congrArg (d.getLsbD 1 && ·) r1.symm))
  | 2 => exact q2.trans ((kept_ne_zero _ _).trans (congrArg (d.getLsbD 2 && ·) r2.symm))
  | 3 => exact q3.trans ((kept_ne_zero _ _).trans (congrArg (d.getLsbD 3 && ·) r3.symm))

theorem Apu.enableWrite_enable (u : Apu) (d : Byte) {k : Nat} (hk : k < 8) :
    (u.enableWrite d).enable.getLsbD k = (decide (k < 5) && d.getLsbD k) := by
  interval_cases k <;> simp [Apu.enableWrite]

/-- Settles O24: the register file by address, each write by its definition. -/
theorem apuRegistersReadAndWrite : Obligations.ApuRegistersReadAndWrite := by
  intro s r
  obtain ⟨r0, r1, r2, r3, r4, r5, r6, r7⟩ := s.apu.statusRead_bits s.openBus
  refine ⟨r0, r1, r2, r3, r4, r5, r6, r7, rfl,
    fun a h h2 => busRead_undriven (deviceRead_apuUndriven s h (by omega) (.inl (by omega))), ?writes⟩
  intro a d t q
  refine ⟨?only, ?channel, ?enable⟩
  case only =>
    rintro (⟨h, h2⟩ | rfl | rfl)
    · simp only [t, busWrite_channel d s h h2]
    · simp only [t, busWrite_apuEnable]
    · simp only [t, busWrite_apuFrame]
  case channel =>
    intro h h2 length
    have ht : t.apu = s.apu.channelWrite a.toNat d := congrArg State.apu (busWrite_channel d s h h2)
    have hirq := s.apu.channelWrite_dmcIrq a d
    rw [ht, ← hirq]
    simp only [Apu.channelWrite, loadLength_if, length, Nat.mul_zero, Nat.mul_one, Nat.reduceMul, Nat.reduceAdd]
  case enable =>
    rintro rfl kept
    exact ⟨rfl, fun k hk => s.apu.enableWrite_enable d hk, busRead_apuStatus_enabled d s⟩

/-! ## The APU's cycles (rules R359, R360) -/

theorem lengthTick_eq (halt : Bool) (k : Byte) : lengthTick halt k = if halt = true ∨ k = 0#8 then k else k - 1#8 := by
  simp only [lengthTick, Bool.or_eq_true, beq_iff_eq]

theorem Apu.raisesFrameIrq_eq (u : Apu) (n : Nat) :
    u.raisesFrameIrq n = (Config.frameStepDue n && !u.fiveStep && !u.irqInhibit && u.frameStep == 3) := by
  unfold Apu.raisesFrameIrq
  ac_rfl

theorem Apu.dmcStops_eq (u : Apu) (n : Nat) :
    u.dmcStops n =
      (u.dmcActive && Config.dmcFetchDue n && Config.dmcSampleEnds n && !(u.regs.read 0x4010).getLsbD 6) := by
  unfold Apu.dmcStops Apu.dmcRequests
  ac_rfl

/-- One APU cycle: the length clock if the frame counter takes a step that has one, and the four fields it drives. -/
theorem Apu.tick_eq (u : Apu) (n : Nat) :
    u.tick n = { (if (Config.frameStepDue n && u.stepClocksLength) = true then u.clockLengths else u) with
      frameStep := if Config.frameStepDue n then u.nextFrameStep else u.frameStep
      frameIrq := u.frameIrq || u.raisesFrameIrq n
      dmcActive := u.dmcActive && !u.dmcStops n
      dmcIrq := u.dmcIrq || (u.dmcStops n && (u.regs.read 0x4010).getLsbD 7) } := by
  simp only [Apu.tick, Apu.dmcCycle, Apu.frameCycle, Bool.and_comm u.stepClocksLength]
  cases Config.frameStepDue n && u.stepClocksLength <;> rfl

theorem Apu.frameWrite_eq (u : Apu) (d : Byte) :
    u.frameWrite d = { (if d.getLsbD 7 then u.clockLengths else u) with
      fiveStep := d.getLsbD 7
      irqInhibit := d.getLsbD 6
      frameStep := 0
      frameIrq := u.frameIrq && !d.getLsbD 6 } := by
  unfold Apu.frameWrite
  dsimp only
  split <;> rfl

/-- What acknowledges the DMC IRQ among the writes of 0x4000 to 0x4015. -/
theorem busWrite_dmcIrq {a : Word} (d : Byte) (s : State) (h : 0x4000 ≤ a.toNat) (h2 : a.toNat ≤ 0x4015) :
    (busWrite a d s).apu.dmcIrq =
      (s.apu.dmcIrq && !decide (a = 0x4015#16 ∨ (a = 0x4010#16 ∧ d.getLsbD 7 = false))) := by
  by_cases h3 : a.toNat ≤ 0x4013
  · have hne : a ≠ 0x4015#16 := by
      rintro rfl
      exact absurd h3 (by decide)
    rw [busWrite_channel d s h h3, Apu.channelWrite_dmcIrq]
    simp only [hne, false_or, Bool.decide_and, beq_eq_decide, Bool.decide_eq_false]
  · obtain rfl | rfl : a = 0x4014#16 ∨ a = 0x4015#16 := by
      have h4 : a.toNat = 0x4014 ∨ a.toNat = 0x4015 := by omega
      exact h4.imp (fun e => BitVec.eq_of_toNat_eq e) fun e => BitVec.eq_of_toNat_eq e
    · exact (Bool.and_true _).symm
    · exact (Bool.and_false _).symm

/-- Settles O25: the frame counter and the DMC in one cycle, and the writes that acknowledge. -/
theorem apuIrqsAreLevels : Obligations.ApuIrqsAreLevels := by
  unfold Obligations.ApuIrqsAreLevels
  intro clocked
  have hclock (u : Apu) : u.clockLengths = clocked u := by
    simp only [Apu.clockLengths, lengthTick_eq, clocked]
  refine ⟨fun u n => ?tick, fun s a d => busWrite_dmcIrq d s, fun s d => ?frame, fun s => rfl⟩
  case tick =>
    rw [u.tick_eq, hclock, u.raisesFrameIrq_eq, u.dmcStops_eq]
    rfl
  case frame =>
    rw [busWrite_apuFrame, ← hclock]
    exact s.apu.frameWrite_eq d

/-! ## The cartridge on the CPU bus (rules R370 to R376) -/

/-- A write at 0x8000 or above reaches the mapper's registers alone (decision D21). -/
theorem busWrite_rom {w : Word} (d : Byte) (s : State) (h : 0x8000 ≤ w.toNat) :
    busWrite w d s = { s with
      cart := { s.cart with mapper := s.cart.mapper.cpuWrite w.toNat d s.cycles }
      openBus := d } := by
  have hlow : ¬ w.toNat < 0x8000 := by omega
  rw [busWrite_eq, deviceWrite_rom d s h]
  simp [Cart.cpuWrite, hlow]

section
variable {c : Cart} {a : Nat}

theorem Cart.prgOffset_nrom (h : c.mapper = .nrom) : c.prgOffset a = (a - 0x8000) % (c.prgBanks * 0x4000) := by
  simp only [Cart.prgOffset, h, Cart.prgSize]

theorem Cart.prgOffset_cnrom {k : BitVec 2} (h : c.mapper = .cnrom k) :
    c.prgOffset a = (a - 0x8000) % (c.prgBanks * 0x4000) := by
  simp only [Cart.prgOffset, h, Cart.prgSize]

theorem Cart.prgOffset_uxrom {k : Byte} (h : c.mapper = .uxrom k) :
    c.prgOffset a = if a < 0xC000 then c.bank16 k.toNat a else c.bank16 (c.prgBanks - 1) a := by
  simp only [Cart.prgOffset, h]

theorem Cart.prgOffset_mmc1 {m : Mmc1} (h : c.mapper = .mmc1 m) : c.prgOffset a = m.prgOffset c a := by
  simp only [Cart.prgOffset, h]

theorem Cart.prgOffset_mmc3 {m : Mmc3} (h : c.mapper = .mmc3 m) : c.prgOffset a = m.prgOffset c a := by
  simp only [Cart.prgOffset, h]

/-- The last 16 KiB bank. -/
theorem Cart.bank16_last (h : 0 < c.prgBanks) :
    c.bank16 (c.prgBanks - 1) a = (c.prgBanks - 1) * 0x4000 + a % 0x4000 := by
  rw [Cart.bank16, Nat.mod_eq_of_lt (by omega)]

/-- The last 8 KiB bank. -/
theorem Cart.bank8_last (h : 0 < c.prgBanks) :
    c.bank8 (2 * c.prgBanks - 1) a = (2 * c.prgBanks - 1) * 0x2000 + a % 0x2000 := by
  rw [Cart.bank8, Nat.mod_eq_of_lt (by omega)]

/-- At power-on the last 8 KiB of the CPU's addresses show the end of PRG-ROM, whatever the mapper (rule R410). -/
theorem Cart.powerOn_prgOffset_end (hn : 0 < c.prgBanks)
    (hsmall : c.mapper = .nrom ∨ (∃ k, c.mapper = .cnrom k) → c.prgBanks ≤ 2) (h : 0xE000 ≤ a) (h2 : a < 0x10000) :
    c.powerOn.prgOffset a = c.prgBanks * 0x4000 - (0x10000 - a) := by
  have hbanks : c.powerOn.prgBanks = c.prgBanks := rfl
  have hpower : c.powerOn.mapper = c.mapper.powerOn := rfl
  have hmirrored (hle : c.prgBanks ≤ 2) :
      (a - 0x8000) % (c.prgBanks * 0x4000) = c.prgBanks * 0x4000 - (0x10000 - a) := by
    obtain h1 | h1 : c.prgBanks = 1 ∨ c.prgBanks = 2 := by omega
    all_goals rw [h1]; omega
  cases hm : c.mapper with
  | nrom => rw [Cart.prgOffset_nrom (hpower.trans (by rw [hm]; rfl)), hbanks, hmirrored (hsmall (.inl hm))]
  | cnrom k =>
    rw [Cart.prgOffset_cnrom (k := 0#2) (hpower.trans (by rw [hm]; rfl)), hbanks, hmirrored (hsmall (.inr ⟨k, hm⟩))]
  | uxrom k =>
    rw [Cart.prgOffset_uxrom (k := 0#8) (hpower.trans (by rw [hm]; rfl)), if_neg (by omega),
      Cart.bank16_last (c := c.powerOn) hn, hbanks]
    omega
  | mmc1 m =>
    have hmode : Mmc1.powerOn.prgMode = 3 := rfl
    rw [Cart.prgOffset_mmc1 (m := Mmc1.powerOn) (hpower.trans (by rw [hm]; rfl)), Mmc1.prgOffset, if_pos hmode,
      if_neg (by omega), Cart.bank16_last (c := c.powerOn) hn, hbanks]
    omega
  | mmc3 m =>
    rw [Cart.prgOffset_mmc3 (m := Mmc3.powerOn) (hpower.trans (by rw [hm]; rfl)), Mmc3.prgOffset, if_pos h,
      Cart.bank8_last (c := c.powerOn) hn, hbanks]
    omega

end

/-- A pattern byte of CNROM's selected bank. -/
theorem Cart.ppuRead_cnrom {c : Cart} {k : BitVec 2} (h : c.mapper = .cnrom k) (j : Nat) :
    c.ppuRead j = c.chr.read ((k.toNat * 0x2000 + j) % c.chrSize) := by
  simp only [Cart.ppuRead, Cart.chrOffset, h]

/-- Settles O27: power-on by the kinds of mapper, and the banks NROM, UxROM and CNROM show after a write. -/
theorem banksAtPowerOnAndAfterWrites : Obligations.BanksAtPowerOnAndAfterWrites := by
  refine ⟨fun q c => ?power, fun s a w d ha hw hn => ?writes⟩
  case power =>
    intro p
    have hmapper : p.cart.mapper = c.mapper.powerOn := rfl
    refine ⟨rfl, fun h => ?_, fun m h => ?_, fun k h => ?_, fun k h => ?_, fun m h => ?_, fun hn hsmall a ha => ?_⟩
    · rw [hmapper, h]; rfl
    · rw [hmapper, h]; rfl
    · rw [hmapper, h]; rfl
    · rw [hmapper, h]; rfl
    · rw [hmapper, h]; rfl
    · rw [busRead_prg p (by omega) hn]
      exact congrArg c.prg.read (Cart.powerOn_prgOffset_end hn hsmall ha a.isLt)
  case writes =>
    intro n t
    have ht := busWrite_rom d s hw
    have hmapper : t.cart.mapper = s.cart.mapper.cpuWrite w.toNat d s.cycles := by rw [show t = _ from ht]
    have hprg : t.cart.prg = s.cart.prg := by rw [show t = _ from ht]
    have hbanks : t.cart.prgBanks = n := by rw [show t = _ from ht]
    have hread : (busRead a t).1 = s.cart.prg.read (t.cart.prgOffset a.toNat) := by
      rw [busRead_prg t ha (by rw [hbanks]; exact hn), hprg]
    have hwhigh : ¬ w.toNat < 0x8000 := by omega
    refine ⟨hprg, fun hm => ⟨?_, ?_⟩, fun k hm => ?_, fun k hm => ?_⟩
    · have hkeep : s.cart.mapper.cpuWrite w.toNat d s.cycles = s.cart.mapper := by rw [hm]; rfl
      rw [show t = _ from ht, hkeep]
    · rw [busRead_prg s ha hn, Cart.prgOffset_nrom hm]
    · have hm' : t.cart.mapper = .uxrom d := by rw [hmapper, hm]; exact if_neg hwhigh
      rw [hread, Cart.prgOffset_uxrom hm']
      refine ⟨fun hlow => ?_, fun hhigh => ?_⟩
      · rw [if_pos hlow, Cart.bank16, hbanks, show a.toNat % 0x4000 = a.toNat - 0x8000 by omega]
      · have := a.isLt
        rw [if_neg (by omega), Cart.bank16_last (by rw [hbanks]; exact hn), hbanks,
          show a.toNat % 0x4000 = a.toNat - 0xC000 by omega]
    · have hm' : t.cart.mapper = .cnrom (d.setWidth 2) := by rw [hmapper, hm]; exact if_neg hwhigh
      refine ⟨by rw [hread, Cart.prgOffset_cnrom hm', hbanks], fun j _ => ?_⟩
      rw [Cart.ppuRead_cnrom hm', BitVec.toNat_setWidth, show t = _ from ht]
      rfl

/-! ## MMC1 (rule R373) -/

/-- The shift register with one bit more, at its top. -/
def serialIn (x : BitVec 5) (b : Bool) : BitVec 5 := (x >>> 1) ||| (if b then 0x10#5 else 0#5)

/-- Five bits shifted in from empty, first one lowest, over all values of them. -/
theorem serialIn_five (b0 b1 b2 b3 b4 : Bool) :
    serialIn (serialIn (serialIn (serialIn (serialIn 0#5 b0) b1) b2) b3) b4 =
      BitVec.ofNat 5 (b0.toNat * 2 ^ 0 + (b1.toNat * 2 ^ 1 + (b2.toNat * 2 ^ 2 + (b3.toNat * 2 ^ 3 +
        (b4.toNat * 2 ^ 4 + 0))))) := by
  revert b0 b1 b2 b3 b4
  decide +kernel

theorem bit0_toNat (d : Byte) : (d.getLsbD 0).toNat = d.toNat % 2 := by
  rw [BitVec.getLsbD, Nat.toNat_testBit, Nat.pow_zero, Nat.div_one]

namespace Mmc1

variable {m : Mmc1} {a : Nat} {d : Byte} {stamp : BitVec 64}

theorem ignores_iff : m.ignores stamp = true ↔ m.lastWrite = some (stamp - 1#64) := by
  rw [ignores, beq_iff_eq]

/-- A write one cycle after the previous one changes no register (C4). -/
theorem cpuWrite_ignored (h : m.lastWrite = some (stamp - 1#64)) :
    m.cpuWrite a d stamp = { m with lastWrite := some stamp } := by
  simp [cpuWrite, ignores_iff.2 h]

/-- Any other write at 0x8000 to 0xFFFF loads. -/
theorem cpuWrite_taken (ha : 0x8000 ≤ a) (h : m.lastWrite ≠ some (stamp - 1#64)) :
    m.cpuWrite a d stamp = { m.load a d with lastWrite := some stamp } := by
  have hi : m.ignores stamp = false := Bool.eq_false_iff.2 fun e => h (ignores_iff.1 e)
  have hlow : ¬ a < 0x8000 := by omega
  simp [cpuWrite, hi, hlow]

theorem load_reset (h : d.getLsbD 7 = true) :
    m.load a d = { m with shift := 0#5, count := 0, control := m.control ||| 0x0C#5 } := if_pos h

/-- The first four serial writes fill the shift register. -/
theorem load_bit (h : d.getLsbD 7 = false) (hc : m.count < 4) :
    m.load a d = { m with shift := serialIn m.shift (d.getLsbD 0), count := m.count + 1 } := by
  simp only [load, h, Bool.false_eq_true, if_false, if_pos hc, serialIn]

/-- The fifth empties it into the register its address selects. -/
theorem load_last (h : d.getLsbD 7 = false) (hc : m.count = 4) (ha : 0x8000 ≤ a) (ha2 : a < 0x10000) :
    let v := serialIn m.shift (d.getLsbD 0)
    m.load a d =
      if a < 0xA000 then { m with shift := 0#5, count := 0, control := v }
      else if a < 0xC000 then { m with shift := 0#5, count := 0, chr0 := v }
      else if a < 0xE000 then { m with shift := 0#5, count := 0, chr1 := v }
      else { m with shift := 0#5, count := 0, prg := v } := by
  intro v
  have hfull : ¬ m.count < 4 := by omega
  have hv : (m.shift >>> 1 ||| if d.getLsbD 0 = true then 0x10#5 else 0#5) = v := rfl
  simp only [load, h, Bool.false_eq_true, if_false, if_neg hfull, hv]
  split_ifs with h1 h2 h3
  · rw [show a / 0x2000 % 4 = 0 by omega]
    rfl
  · rw [show a / 0x2000 % 4 = 1 by omega]
    rfl
  · rw [show a / 0x2000 % 4 = 2 by omega]
    rfl
  · rw [show a / 0x2000 % 4 = 3 by omega]
    rfl

/-- One of the first four serial writes. -/
theorem cpuWrite_bit (ha : 0x8000 ≤ a) (hl : m.lastWrite ≠ some (stamp - 1#64)) (h7 : d.getLsbD 7 = false)
    (hc : m.count < 4) :
    m.cpuWrite a d stamp =
      { m with shift := serialIn m.shift (d.getLsbD 0), count := m.count + 1, lastWrite := some stamp } := by
  rw [cpuWrite_taken ha hl, load_bit h7 hc]

/-- Five serial writes from an empty shift register: the last one is to a full one. -/
theorem cpuWrite_five {w : Fin 5 → Byte} {b : Fin 5 → Nat} {st : Fin 5 → BitVec 64} (hc : m.count = 0)
    (hl : m.lastWrite ≠ some (st 0 - 1#64)) (hnext : ∀ k : Fin 4, st k.castSucc ≠ st k.succ - 1#64)
    (h7 : ∀ k, (w k).getLsbD 7 = false) (hb : ∀ k, 0x8000 ≤ b k ∧ b k < 0x10000) :
    (List.finRange 5).foldl (fun q k => q.cpuWrite (b k) (w k) (st k)) m =
      { load { m with
          shift := serialIn (serialIn (serialIn (serialIn m.shift ((w 0).getLsbD 0)) ((w 1).getLsbD 0))
            ((w 2).getLsbD 0)) ((w 3).getLsbD 0)
          count := 4
          lastWrite := some (st 3) } (b 4) (w 4) with lastWrite := some (st 4) } := by
  have hstep (k : Fin 4) : some (st k.castSucc) ≠ some (st k.succ - 1#64) := fun e => hnext k (Option.some.inj e)
  have hfold : (List.finRange 5).foldl (fun q k => q.cpuWrite (b k) (w k) (st k)) m =
      ((((m.cpuWrite (b 0) (w 0) (st 0)).cpuWrite (b 1) (w 1) (st 1)).cpuWrite (b 2) (w 2) (st 2)).cpuWrite (b 3) (w 3)
        (st 3)).cpuWrite (b 4) (w 4) (st 4) := rfl
  rw [hfold, cpuWrite_bit (hb 0).1 hl (h7 0) (by omega), cpuWrite_bit (hb 1).1 (hstep 0) (h7 1) (by dsimp only; omega),
    cpuWrite_bit (hb 2).1 (hstep 1) (h7 2) (by dsimp only; omega),
    cpuWrite_bit (hb 3).1 (hstep 2) (h7 3) (by dsimp only; omega), cpuWrite_taken (hb 4).1 (hstep 3), hc]

theorem prgMode_eq (m : Mmc1) : m.prgMode = m.control.toNat / 4 % 4 := by
  rw [prgMode, BitVec.extractLsb'_toNat, Nat.shiftRight_eq_div_pow]

/-- The 16 KiB bank shown at an address (rule R373). -/
theorem prgOffset_eq (m : Mmc1) (c : Cart) (a : Nat) :
    m.prgOffset c a = c.bank16
      (if m.control.toNat / 4 % 4 < 2 then m.prg.toNat / 2 * 2 + (a - 0x8000) / 0x4000
       else if a < 0xC000 then if m.control.toNat / 4 % 4 = 2 then 0 else m.prg.toNat
       else if m.control.toNat / 4 % 4 = 2 then m.prg.toNat else c.prgBanks - 1) a := by
  rw [prgOffset, prgMode_eq, prgBank]
  obtain hmode | hmode | hmode : m.control.toNat / 4 % 4 < 2 ∨ m.control.toNat / 4 % 4 = 2 ∨
      m.control.toNat / 4 % 4 = 3 := by omega
  · rw [if_neg (by omega), if_neg (by omega), if_pos hmode]
  · simp only [hmode, if_neg (show ¬ 2 < 2 by omega), if_neg (show ¬ 2 = 3 by omega), if_true]
    split_ifs <;> rfl
  · simp only [hmode, if_neg (show ¬ 3 < 2 by omega), if_neg (show ¬ 3 = 2 by omega), if_true]
    split_ifs <;> rfl

end Mmc1

theorem Cart.ppuRead_mmc1 {c : Cart} {m : Mmc1} (h : c.mapper = .mmc1 m) (j : Nat) :
    c.ppuRead j = c.chr.read (m.chrOffset j % c.chrSize) := by
  simp only [Cart.ppuRead, Cart.chrOffset, h]

/-- Control bits 1:0 select the mirroring. -/
theorem Cart.mirror_mmc1 {c : Cart} {m : Mmc1} (h : c.mapper = .mmc1 m) :
    c.mirror = [.oneLower, .oneUpper, .vertical, .horizontal].getD (m.control.toNat % 4) .horizontal := by
  have hbits : (m.control.extractLsb' 0 2).toNat = m.control.toNat % 4 := by
    rw [BitVec.extractLsb'_toNat, Nat.shiftRight_zero]
  have hlt : m.control.toNat % 4 < 4 := Nat.mod_lt _ (by decide)
  simp only [Cart.mirror, h, hbits]
  generalize m.control.toNat % 4 = k at hlt
  interval_cases k <;> rfl

/-- Settles O28: the serial port write by write, then the bank registers by their definitions. -/
theorem mmc1RegistersSelectBanks : Obligations.Mmc1RegistersSelectBanks := by
  intro m a d t0
  refine ⟨fun w b st hcount hshift hfirst hnext h7 hb => ?serial, fun ha hl h7 => ?reset,
    Mmc1.cpuWrite_ignored, fun s e hm hn he => ?prg, fun c hm => ⟨Cart.mirror_mmc1 hm, fun j _ => ?chr⟩⟩
  case serial =>
    intro r v
    have hv : serialIn (serialIn (serialIn (serialIn (serialIn m.shift ((w 0).getLsbD 0)) ((w 1).getLsbD 0))
        ((w 2).getLsbD 0)) ((w 3).getLsbD 0)) ((w 4).getLsbD 0) = v := by
      rw [hshift, serialIn_five]
      simp only [bit0_toNat]
      rfl
    have hr := Mmc1.cpuWrite_five hcount hfirst hnext h7 hb
    rw [Mmc1.load_last (h7 4) rfl (hb 4).1 (hb 4).2, hv] at hr
    rw [show r = _ from hr]
    split_ifs <;> exact ⟨rfl, rfl, rfl⟩
  case reset =>
    rw [Mmc1.cpuWrite_taken ha hl, Mmc1.load_reset h7]
  case prg =>
    rw [busRead_prg s he hn, Cart.prgOffset_mmc1 hm, Mmc1.prgOffset_eq]
    rfl
  case chr =>
    rw [Cart.ppuRead_mmc1 hm, Mmc1.chrOffset, apply_ite BitVec.toNat]

/-! ## MMC3 (rule R376) -/

namespace Mmc3

variable {m : Mmc3} {a : Nat} {d : Byte} {stamp : BitVec 64}

/-- The counter's next value on an edge. -/
theorem clock_eq (m : Mmc3) :
    let next := if m.counter = 0#8 ∨ m.reload = true then m.latch else m.counter - 1#8
    m.clock = { m with counter := next, reload := false, pending := m.pending || (m.enabled && next == 0#8) } := by
  simp only [clock, Bool.or_eq_true, decide_eq_true_eq]

/-- A rising edge of the sampled level clocks the counter. -/
theorem sampleA12_edge {level : Bool} (h : level = true) (h2 : m.a12 = false) :
    m.sampleA12 level = { m.clock with a12 := true } := by
  simp [sampleA12, h, h2]

theorem sampleA12_level {level : Bool} (h : level = false ∨ m.a12 = true) :
    m.sampleA12 level = { m with a12 := level } := by
  obtain h | h := h <;> simp [sampleA12, h]

/-! ### The register writes -/

theorem write_high (ha : 0x8000 ≤ a) : (Mapper.mmc3 m).cpuWrite a d stamp = .mmc3 (m.cpuWrite a d) :=
  if_neg (by omega)

theorem cpuWrite_8000 (h2 : a < 0xA000) (ho : a % 2 = 0) : m.cpuWrite a d = { m with select := d } := by
  simp only [cpuWrite, ho, h2, if_true, zero_ne_one, if_false]

theorem cpuWrite_8001 (h2 : a < 0xA000) (ho : a % 2 = 1) :
    m.cpuWrite a d = { m with banks := m.banks.write (m.select &&& 0x07#8).toNat d } := by
  have hk : (m.select &&& 0x07#8).toNat = m.select.toNat % 8 := Nat.and_two_pow_sub_one_eq_mod _ 3
  simp only [cpuWrite, ho, h2, if_true, hk]

theorem cpuWrite_A000 (h : 0xA000 ≤ a) (h2 : a < 0xC000) (ho : a % 2 = 0) :
    m.cpuWrite a d = { m with horizontal := d.getLsbD 0 } := by
  simp only [cpuWrite, ho, if_neg (Nat.not_lt.2 h), h2, if_true, zero_ne_one, if_false]

theorem cpuWrite_A001 (h : 0xA000 ≤ a) (h2 : a < 0xC000) (ho : a % 2 = 1) :
    m.cpuWrite a d = { m with protect := d } := by
  simp only [cpuWrite, ho, if_neg (Nat.not_lt.2 h), h2, if_true]

theorem cpuWrite_C000 (h : 0xC000 ≤ a) (h2 : a < 0xE000) (ho : a % 2 = 0) : m.cpuWrite a d = { m with latch := d } := by
  have h1 : ¬ a < 0xA000 := by omega
  simp only [cpuWrite, ho, h1, if_neg (Nat.not_lt.2 h), h2, if_true, zero_ne_one, if_false]

theorem cpuWrite_C001 (h : 0xC000 ≤ a) (h2 : a < 0xE000) (ho : a % 2 = 1) :
    m.cpuWrite a d = { m with reload := true } := by
  have h1 : ¬ a < 0xA000 := by omega
  simp only [cpuWrite, ho, h1, if_neg (Nat.not_lt.2 h), h2, if_true, if_false]

theorem cpuWrite_E000 (h : 0xE000 ≤ a) (ho : a % 2 = 0) :
    m.cpuWrite a d = { m with enabled := false, pending := false } := by
  have h1 : ¬ a < 0xA000 := by omega
  have h2 : ¬ a < 0xC000 := by omega
  simp only [cpuWrite, ho, h1, h2, if_neg (Nat.not_lt.2 h), zero_ne_one, if_false]

theorem cpuWrite_E001 (h : 0xE000 ≤ a) (ho : a % 2 = 1) : m.cpuWrite a d = { m with enabled := true } := by
  have h1 : ¬ a < 0xA000 := by omega
  have h2 : ¬ a < 0xC000 := by omega
  simp only [cpuWrite, ho, h1, h2, if_neg (Nat.not_lt.2 h), if_true, if_false]

/-! ### The bank maps -/

/-- The 8 KiB bank in each of the four slots of 0x8000 to 0xFFFF (log 18). -/
def prgSlots (m : Mmc3) (c : Cart) : List Nat :=
  if m.select.getLsbD 6 then [2 * c.prgBanks - 2, m.bankReg 7, m.bankReg 6, 2 * c.prgBanks - 1]
  else [m.bankReg 6, m.bankReg 7, 2 * c.prgBanks - 2, 2 * c.prgBanks - 1]

theorem prgOffset_eq (m : Mmc3) (c : Cart) (ha : 0x8000 ≤ a) (ha2 : a < 0x10000) :
    m.prgOffset c a = c.bank8 ((m.prgSlots c).getD ((a - 0x8000) / 0x2000) 0) a := by
  have hlast : 2 * c.prgBanks - 1 - 1 = 2 * c.prgBanks - 2 := by omega
  rw [prgOffset, prgSlots, hlast]
  obtain h | h | h | h : a < 0xA000 ∨ (0xA000 ≤ a ∧ a < 0xC000) ∨ (0xC000 ≤ a ∧ a < 0xE000) ∨ 0xE000 ≤ a := by omega
  · rw [if_neg (by omega), if_neg (by omega), if_neg (by omega), show (a - 0x8000) / 0x2000 = 0 by omega]
    split <;> rfl
  · rw [if_neg (by omega), if_neg (by omega), if_pos h.1, show (a - 0x8000) / 0x2000 = 1 by omega]
    split <;> rfl
  · rw [if_neg (by omega), if_pos h.1, show (a - 0x8000) / 0x2000 = 2 by omega]
    split <;> rfl
  · rw [if_pos h, show (a - 0x8000) / 0x2000 = 3 by omega]
    split <;> rfl

/-- The 1 KiB bank in each of the eight slots of the pattern tables, before the exchange of their halves (log 18). -/
def chrSlots (m : Mmc3) : List Nat :=
  [m.bankReg 0 / 2 * 2, m.bankReg 0 / 2 * 2 + 1, m.bankReg 1 / 2 * 2, m.bankReg 1 / 2 * 2 + 1, m.bankReg 2,
    m.bankReg 3, m.bankReg 4, m.bankReg 5]

/-- The pattern byte's offset at an address of the unexchanged map. -/
theorem chrSlots_offset (m : Mmc3) (ha : a < 0x2000) :
    (if a < 0x1000 then m.bankReg (a / 0x800) / 2 * 0x800 + a % 0x800
     else m.bankReg (2 + (a - 0x1000) / 0x400) * 0x400 + a % 0x400) =
      m.chrSlots.getD (a / 0x400) 0 * 0x400 + a % 0x400 := by
  split
  · next h =>
    obtain hk | hk | hk | hk : a / 0x400 = 0 ∨ a / 0x400 = 1 ∨ a / 0x400 = 2 ∨ a / 0x400 = 3 := by omega
    · rw [hk, show a / 0x800 = 0 by omega]
      show _ = m.bankReg 0 / 2 * 2 * 0x400 + a % 0x400
      omega
    · rw [hk, show a / 0x800 = 0 by omega]
      show _ = (m.bankReg 0 / 2 * 2 + 1) * 0x400 + a % 0x400
      omega
    · rw [hk, show a / 0x800 = 1 by omega]
      show _ = m.bankReg 1 / 2 * 2 * 0x400 + a % 0x400
      omega
    · rw [hk, show a / 0x800 = 1 by omega]
      show _ = (m.bankReg 1 / 2 * 2 + 1) * 0x400 + a % 0x400
      omega
  · next h =>
    rw [show 2 + (a - 0x1000) / 0x400 = a / 0x400 - 2 by omega]
    obtain hk | hk | hk | hk : a / 0x400 = 4 ∨ a / 0x400 = 5 ∨ a / 0x400 = 6 ∨ a / 0x400 = 7 := by omega
    all_goals rw [hk]; rfl

theorem chrOffset_eq (m : Mmc3) (ha : a < 0x2000) :
    m.chrOffset a =
      m.chrSlots.getD (if m.select.getLsbD 7 then (a / 0x400 + 4) % 8 else a / 0x400) 0 * 0x400 + a % 0x400 := by
  rw [chrOffset]
  split
  · rw [m.chrSlots_offset (Nat.mod_lt _ (by decide)), show (a + 0x1000) % 0x2000 / 0x400 = (a / 0x400 + 4) % 8 by omega,
      show (a + 0x1000) % 0x2000 % 0x400 = a % 0x400 by omega]
  · exact m.chrSlots_offset ha

end Mmc3

theorem Cart.ppuRead_mmc3 {c : Cart} {m : Mmc3} (h : c.mapper = .mmc3 m) (j : Nat) :
    c.ppuRead j = c.chr.read (m.chrOffset j % c.chrSize) := by
  simp only [Cart.ppuRead, Cart.chrOffset, h]

theorem Cart.mirror_mmc3 {c : Cart} {m : Mmc3} (h : c.mapper = .mmc3 m) :
    c.mirror = if c.mirroring = .fourScreen then .fourScreen else if m.horizontal then .horizontal else .vertical := by
  simp only [Cart.mirror, h]

/-- A write of PRG-RAM, which the protect register can deny (log 19). -/
theorem busWrite_prgRam_mmc3 {m : Mmc3} {s : State} {e : Word} (d : Byte) (hm : s.cart.mapper = .mmc3 m)
    (he : 0x6000 ≤ e.toNat) (he2 : e.toNat < 0x8000) (hp : s.cart.prgRamPresent = true) :
    (busWrite e d s).cart.prgRam =
      if m.protect.getLsbD 6 then s.cart.prgRam else s.cart.prgRam.write (e.toNat - 0x6000) d := by
  rw [busWrite_eq, deviceWrite_cart d s (by omega)]
  simp only [Cart.cpuWrite, hm, hp, he, he2, Mapper.prgRamWritable, decide_true, Bool.and_true, Bool.true_and]
  cases m.protect.getLsbD 6 <;> rfl

/-! ### The sampling of A12 -/

/-- Only MMC3 samples A12. -/
theorem Mapper.sampleA12_other {m : Mapper} (h : m.kind ≠ 4) (level : Bool) : m.sampleA12 level = m := by
  cases m with
  | mmc3 m => exact absurd rfl h
  | _ => rfl

/-- The level in the `k`-th dot of the cycle that is about to end (log 15). -/
def State.a12Level (s : State) (k : Nat) : Bool := (s.ppu.ticks (3 * s.free) k).a12 (3 * s.free + k)

/-- The mapper after a cycle: one sample in each of its dots, before the dot runs. -/
theorem endCycle_cart (s : State) :
    (endCycle s).cart = { s.cart with
      mapper := ((s.cart.mapper.sampleA12 (s.a12Level 0)).sampleA12 (s.a12Level 1)).sampleA12 (s.a12Level 2) } := rfl

/-- Settles O29: the counter sample by sample, each register's write, and the bank maps. -/
theorem mmc3RegistersAndCounter : Obligations.Mmc3RegistersAndCounter := by
  intro m level a d stamp next
  refine ⟨fun h h2 => ?edge, fun h => Mmc3.sampleA12_level h, ?cycle, rfl,
    fun h ho => ?_, fun h ho => ?_, fun h h2 ho => ?_, fun h h2 ho => ?_, fun h => if_pos h, fun h h2 ho => ?_,
    fun h h2 ho => ?_, fun h h2 ho => ?_, fun h h2 ho => ?_, ?maps⟩
  case edge =>
    rw [Mmc3.sampleA12_edge h h2, Mmc3.clock_eq]
  case cycle =>
    intro s levels
    have hlevel : s.a12Level = levels := rfl
    refine ⟨rfl, fun hm => ?_, fun hk => ?_⟩
    · rw [endCycle_cart, hm, hlevel]
      rfl
    · rw [endCycle_cart, Mapper.sampleA12_other hk, Mapper.sampleA12_other hk, Mapper.sampleA12_other hk]
  case maps =>
    intro r
    refine ⟨fun s e hm hn he => ?_, fun s e hm he he2 hp => busWrite_prgRam_mmc3 d hm he he2 hp,
      fun c hm => ⟨Cart.mirror_mmc3 hm, fun j hj => ?_⟩⟩
    · rw [busRead_prg s he hn, Cart.prgOffset_mmc3 hm, m.prgOffset_eq s.cart he e.isLt]
      rfl
    · rw [Cart.ppuRead_mmc3 hm, m.chrOffset_eq hj]
      rfl
  · rw [Mmc3.write_high (by omega), Mmc3.cpuWrite_E000 h ho]
  · rw [Mmc3.write_high (by omega), Mmc3.cpuWrite_E001 h ho]
  · rw [Mmc3.write_high (by omega), Mmc3.cpuWrite_C000 h h2 ho]
  · rw [Mmc3.write_high (by omega), Mmc3.cpuWrite_C001 h h2 ho]
  · rw [Mmc3.write_high h, Mmc3.cpuWrite_8000 h2 ho]
  · rw [Mmc3.write_high h, Mmc3.cpuWrite_8001 h2 ho]
  · rw [Mmc3.write_high (by omega), Mmc3.cpuWrite_A000 h h2 ho]
  · rw [Mmc3.write_high (by omega), Mmc3.cpuWrite_A001 h h2 ho]

/-! ## What no step changes (rules R345, R370, R371) -/

/-- What the cartridge is: everything but the mapper's registers, PRG-RAM and CHR-RAM. -/
def Cart.fixed (c : Cart) : Memory × Nat × Nat × Mirroring × Bool × Bool × Memory × Nat :=
  (c.prg, c.prgBanks, c.chrBanks, c.mirroring, c.prgRamPresent, c.battery, if c.chrBanks = 0 then [] else c.chr,
    c.mapper.kind)

/-- The parameters, the host's inputs, and what the cartridge is. -/
def State.fixed (s : State) : Params × Byte × Byte × Memory × Nat × Nat × Mirroring × Bool × Bool × Memory × Nat :=
  (s.params, s.pads.input1, s.pads.input2, s.cart.fixed)

theorem Cart.fixed_setMapper (c : Cart) {m : Mapper} (h : m.kind = c.mapper.kind) :
    ({ c with mapper := m } : Cart).fixed = c.fixed := by
  simp only [Cart.fixed, h]

theorem Cart.fixed_regWriteCart (p : Ppu) (c : Cart) (r : Nat) (d : Byte) : (p.regWriteCart c r d).fixed = c.fixed := by
  unfold Ppu.regWriteCart Cart.ppuWrite
  split_ifs with h1 h2
  · simp only [Cart.fixed, h2, if_true]
  · rfl
  · rfl

theorem Cart.fixed_cpuWrite (c : Cart) (a : Nat) (d : Byte) (stamp : BitVec 64) :
    (c.cpuWrite a d stamp).fixed = c.fixed :=
  c.fixed_setMapper (c.mapper.cpuWrite_kind a d stamp)

/-- Equal parts make equal wholes. -/
theorem State.fixed_congr {s t : State} (hq : t.params = s.params) (h1 : t.pads.input1 = s.pads.input1)
    (h2 : t.pads.input2 = s.pads.input2) (hc : t.cart.fixed = s.cart.fixed) : t.fixed = s.fixed := by
  rw [State.fixed, hq, h1, h2, hc, State.fixed]

theorem deviceRead_fixed (a : Nat) (s : State) : (deviceRead a s).2.fixed = s.fixed := by
  unfold deviceRead
  split_ifs <;> rfl

theorem busRead_fixed (a : Word) (s : State) : (busRead a s).2.fixed = s.fixed := deviceRead_fixed a.toNat s

theorem busWrite_fixed (a : Word) (d : Byte) (s : State) : (busWrite a d s).fixed = s.fixed := by
  obtain ⟨hq, -, h1, h2, -⟩ := busWrite_keepsPlatform a d s
  refine State.fixed_congr hq h1 h2 ?_
  show (deviceWrite a.toNat d s).cart.fixed = s.cart.fixed
  unfold deviceWrite
  split_ifs
  on_goal 2 => exact Cart.fixed_regWriteCart _ _ _ _
  on_goal 8 => exact Cart.fixed_cpuWrite _ _ _ _
  all_goals rfl

theorem endCycle_fixed (s : State) : (endCycle s).fixed = s.fixed := by
  refine State.fixed_congr rfl rfl rfl ?_
  rw [endCycle_cart]
  exact s.cart.fixed_setMapper (by simp only [Mapper.sampleA12_kind])

theorem BusRun.fixed {s t : State} (r : BusRun s t) : t.fixed = s.fixed := by
  induction r with
  | refl => rfl
  | read a _ ih => exact (endCycle_fixed _).trans ((busRead_fixed a _).trans ih)
  | write a d _ ih => exact (endCycle_fixed _).trans ((busWrite_fixed a d _).trans ih)
  | regs _ _ _ _ _ _ _ ih => exact ih
  | clearNmi _ ih => exact ih
  | stick _ _ _ ih => exact ih

theorem DmaJob.cycle_fixed (j : DmaJob) (s : State) : (j.cycle s).2.fixed = s.fixed := by
  obtain h | ⟨a, h⟩ | ⟨i, d, h⟩ | ⟨a, d, h⟩ := j.cycle_cases s <;> rw [h]
  · exact busRead_fixed a s
  · rfl
  · exact busRead_fixed a s

theorem dmaCycle_fixed (s : State) : (dmaCycle s).fixed = s.fixed := by
  unfold dmaCycle
  split
  · rfl
  · exact DmaJob.cycle_fixed _ s

theorem stallCycle_fixed (s : State) : (stallCycle s).fixed = s.fixed :=
  (endCycle_fixed _).trans (dmaCycle_fixed { s with stall := s.stall - 1 })

/-- DEVICE_RESET reaches the mapper's registers, not its kind. -/
theorem resetStart_fixed (s : State) : (resetStart s).fixed = s.fixed := by
  obtain h | ⟨-, -, h⟩ := resetStart_cases s <;> rw [h]
  · rfl
  · exact State.fixed_congr rfl rfl rfl (s.cart.fixed_setMapper (Mapper.warmReset_kind _ _))

theorem resetSequence_fixed (s : State) : (resetSequence s).fixed = s.fixed := by
  obtain ⟨t, run, ht⟩ := resetSequence_run s
  rw [ht]
  exact run.fixed.trans (resetStart_fixed s)

/-- No step changes the fixed part. -/
theorem step_fixed {s t : State} (h : step s = .next t) : t.fixed = s.fixed := by
  obtain ⟨-, rfl⟩ | ⟨-, rfl⟩ | ⟨-, rfl | rfl | hx⟩ := step_next_cases h
  · exact resetSequence_fixed s
  · exact stallCycle_fixed s
  · exact (BusRun.nmiSequence s).fixed
  · exact (BusRun.irqSequence s).fixed
  · exact ((fetchPhase_run s).trans (exec_run hx)).fixed

/-- Settles O34: the fixed part, field by field. -/
theorem platformNeverChanges : Obligations.PlatformNeverChanges := by
  intro s t h
  have hfixed := step_fixed h
  simp only [State.fixed, Cart.fixed, Prod.mk.injEq] at hfixed
  obtain ⟨hparams, h1, h2, hprg, hprgBanks, hchrBanks, hmirroring, hpresent, hbattery, hchr, hkind⟩ := hfixed
  refine ⟨hparams, h1, h2, hprg, hprgBanks, hchrBanks, hmirroring, hpresent, hbattery, fun hrom => ?_, hkind⟩
  rwa [hchrBanks, if_neg hrom, if_neg hrom] at hchr

end Sys2Proof.Machine
